-- ==== Sys2Proof/Word.lean ====
section
/-! DEFINITION. The fixed sizes of the block that give its words their widths, each a named parameter with the value
this hardware takes (00_scope.md R6), and the plain words: what the manual treats as bits (R6, R8, R9). All values are
unsigned and bit 0 is the least significant. -/

namespace Sys2Proof

/-! ### Widths (R6) -/

/-- NUM_V: the general registers V0 to VF (R6, R21). -/
@[simp] abbrev Config.numV : Nat := 16

/-- V_WIDTH: the width of a general register (R6, R21). -/
@[simp] abbrev Config.vWidth : Nat := 8

/-- I_WIDTH: the width of the address register (R6, R26). -/
@[simp] abbrev Config.iWidth : Nat := 16

/-- PC_WIDTH: the width of the program counter (R6, R24). -/
@[simp] abbrev Config.pcWidth : Nat := 16

/-- STACK_ENTRY_WIDTH: the width of a call-stack slot (R6, R27). -/
@[simp] abbrev Config.stackEntryWidth : Nat := 16

/-- SP_WIDTH: the width of the stack pointer (R6, R27). -/
@[simp] abbrev Config.spWidth : Nat := 8

/-- TIMER_WIDTH: the width of DT and of ST (R6, R30). -/
@[simp] abbrev Config.timerWidth : Nat := 8

/-- INSTR_WIDTH: the width of an instruction word (R6, R70). -/
@[simp] abbrev Config.instrWidth : Nat := 16

/-- KEY_WIDTH: the width of a key code (R6, R210). -/
@[simp] abbrev Config.keyWidth : Nat := 4

/-! ### Words -/

/-- 8 bits: a memory byte (R50), an immediate `kk` (R72), and what V[x], SP, DT and ST hold at their widths above. -/
abbrev Byte := BitVec 8

/-- 16 bits: what PC, I, a stack slot and an opcode hold at their widths above. -/
abbrev Word := BitVec 16

/-- The 12-bit address field `nnn` (R72). -/
abbrev Addr12 := BitVec 12

/-- The 4-bit field `n`, a row count (R72). -/
abbrev Nibble := BitVec 4

/-- A general register selector, V0 to VF (R21, R72). -/
abbrev Reg := Fin Config.numV

/-- The register that also receives flag outcomes (R22). -/
abbrev Reg.flag : Reg := 15

end Sys2Proof
end

