-- ==== Sys2Proof/Syntax.lean ====
section
/-! DEFINITION. The instructions: one constructor per row of spec/opcode_table.json, in the table's order
(30_encoding.md R77). Operands are the fields of R72 with their exact widths, so an operand out of range cannot
be written. -/

namespace Sys2Proof

inductive Instr where
  /-- 00E0 CLS (R194). -/
  | cls
  /-- 00EE RET (R121). -/
  | ret
  /-- 1nnn JP addr (R123). -/
  | jp (nnn : Addr12)
  /-- 2nnn CALL addr (R122). -/
  | call (nnn : Addr12)
  /-- 3xkk SE Vx, byte (R124). -/
  | seByte (x : Reg) (kk : Byte)
  /-- 4xkk SNE Vx, byte (R125). -/
  | sneByte (x : Reg) (kk : Byte)
  /-- 5xy0 SE Vx, Vy (R126). -/
  | seReg (x y : Reg)
  /-- 6xkk LD Vx, byte (R141). -/
  | ldByte (x : Reg) (kk : Byte)
  /-- 7xkk ADD Vx, byte (R142). -/
  | addByte (x : Reg) (kk : Byte)
  /-- 8xy0 LD Vx, Vy (R143). -/
  | ldReg (x y : Reg)
  /-- 8xy1 OR Vx, Vy (R144). -/
  | orReg (x y : Reg)
  /-- 8xy2 AND Vx, Vy (R145). -/
  | andReg (x y : Reg)
  /-- 8xy3 XOR Vx, Vy (R146). -/
  | xorReg (x y : Reg)
  /-- 8xy4 ADD Vx, Vy (R147). -/
  | addReg (x y : Reg)
  /-- 8xy5 SUB Vx, Vy (R148). -/
  | sub (x y : Reg)
  /-- 8xy6 SHR Vx (R149); the field y is decoded and has no effect (R78). -/
  | shr (x y : Reg)
  /-- 8xy7 SUBN Vx, Vy (R150). -/
  | subn (x y : Reg)
  /-- 8xyE SHL Vx (R151); the field y is decoded and has no effect (R78). -/
  | shl (x y : Reg)
  /-- 9xy0 SNE Vx, Vy (R127). -/
  | sneReg (x y : Reg)
  /-- Annn LD I, addr (R170). -/
  | ldI (nnn : Addr12)
  /-- Bnnn JP V0, addr (R128). -/
  | jpV0 (nnn : Addr12)
  /-- Cxkk RND Vx, byte (R152). -/
  | rnd (x : Reg) (kk : Byte)
  /-- Dxyn DRW Vx, Vy, nibble (R195). -/
  | drw (x y : Reg) (n : Nibble)
  /-- Ex9E SKP Vx (R216). -/
  | skp (x : Reg)
  /-- ExA1 SKNP Vx (R217). -/
  | sknp (x : Reg)
  /-- Fx07 LD Vx, DT (R212). -/
  | ldVxDt (x : Reg)
  /-- Fx0A LD Vx, K (R215). -/
  | ldVxK (x : Reg)
  /-- Fx15 LD DT, Vx (R213). -/
  | ldDtVx (x : Reg)
  /-- Fx18 LD ST, Vx (R214). -/
  | ldStVx (x : Reg)
  /-- Fx1E ADD I, Vx (R171). -/
  | addI (x : Reg)
  /-- Fx29 LD F, Vx (R172). -/
  | ldF (x : Reg)
  /-- Fx33 LD B, Vx (R173). -/
  | ldB (x : Reg)
  /-- Fx55 LD [I], Vx (R174). -/
  | storeRegs (x : Reg)
  /-- Fx65 LD Vx, [I] (R175). -/
  | loadRegs (x : Reg)
  deriving DecidableEq, Repr

end Sys2Proof
end

