-- ==== Sys2Proof/WellFormed.lean ====
section
/-! DEFINITION. Which instructions are rows of the opcode map. Operand ranges are in the types of Syntax.lean, so
the one check left is the parameter KEY_SKIP_IMPLEMENTED: with it false, Ex9E and ExA1 are no instructions
(30_encoding.md R82). -/

namespace Sys2Proof

/-- `i` is a row of the opcode map of a core built with this KEY_SKIP_IMPLEMENTED (R77, R82). -/
def WellFormed (keySkip : Bool) (i : Instr) : Bool :=
  match i with
  | .skp _ => keySkip
  | .sknp _ => keySkip
  | .cls | .ret | .jp _ | .call _ | .seByte _ _ | .sneByte _ _ | .seReg _ _ | .ldByte _ _ | .addByte _ _
  | .ldReg _ _ | .orReg _ _ | .andReg _ _ | .xorReg _ _ | .addReg _ _ | .sub _ _ | .shr _ _ | .subn _ _
  | .shl _ _ | .sneReg _ _ | .ldI _ | .jpV0 _ | .rnd _ _ | .drw _ _ _ | .ldVxDt _ | .ldVxK _ | .ldDtVx _
  | .ldStVx _ | .addI _ | .ldF _ | .ldB _ | .storeRegs _ | .loadRegs _ => true

end Sys2Proof
end

