-- ==== Sys2Proof/Decode.lean ====
section
/-! DEFINITION. Decoding and encoding (30_encoding.md). The decoder is total: any bytes give an instruction or a
rejection by name. The opcode map of R77 stands beside it as data. -/

namespace Sys2Proof

/-- Why bytes are no instruction. -/
inductive DecodeError where
  /-- The word matches no row of the opcode map (R80); it carries the raw word. -/
  | unknownOpcode (op : Word)
  /-- Fewer than two bytes: no whole word (R70). -/
  | truncated
  deriving DecidableEq, Repr

/-! Fields (R72). -/

/-- `op[15:12]`, the family. -/
def opFamily (op : Word) : Nibble := op.extractLsb' 12 4

/-- `op[11:8]`, the register selector x. -/
def opX (op : Word) : Reg := (op.extractLsb' 8 4).toFin

/-- `op[7:4]`, the register selector y. -/
def opY (op : Word) : Reg := (op.extractLsb' 4 4).toFin

/-- `op[3:0]`, the nibble n. -/
def opN (op : Word) : Nibble := op.extractLsb' 0 4

/-- `op[7:0]`, the immediate kk. -/
def opKk (op : Word) : Byte := op.extractLsb' 0 8

/-- `op[11:0]`, the address nnn. -/
def opNnn (op : Word) : Addr12 := op.extractLsb' 0 12

/-- The word of two bytes, the one at the lower address in bits 15:8 (R58, R71). -/
def wordOfBytes (hi lo : Byte) : Word := hi ++ lo

/-- The byte of a word at the lower address (R58). -/
def highByte (op : Word) : Byte := op.extractLsb' 8 8

/-- The byte of a word at the higher address (R58). -/
def lowByte (op : Word) : Byte := op.extractLsb' 0 8

/-! The decoder (R76): the family first, then the low nibble (5, 8, 9), the low byte (E, F) or the whole word (0). -/

/-- Family 0x0: the whole word decides. -/
def decodeFamily0 (op : Word) : Option Instr :=
  if op = 0x00E0#16 then some .cls
  else if op = 0x00EE#16 then some .ret
  else none

/-- Family 0x8: the low nibble decides. -/
def decodeFamily8 (op : Word) : Option Instr :=
  match opN op with
  | 0x0#4 => some (.ldReg (opX op) (opY op))
  | 0x1#4 => some (.orReg (opX op) (opY op))
  | 0x2#4 => some (.andReg (opX op) (opY op))
  | 0x3#4 => some (.xorReg (opX op) (opY op))
  | 0x4#4 => some (.addReg (opX op) (opY op))
  | 0x5#4 => some (.sub (opX op) (opY op))
  | 0x6#4 => some (.shr (opX op) (opY op))
  | 0x7#4 => some (.subn (opX op) (opY op))
  | 0xE#4 => some (.shl (opX op) (opY op))
  | _ => none

/-- Family 0xE: the low byte decides, and the two rows exist only with KEY_SKIP_IMPLEMENTED (R82). -/
def decodeFamilyE (keySkip : Bool) (op : Word) : Option Instr :=
  if keySkip then
    if opKk op = 0x9E#8 then some (.skp (opX op))
    else if opKk op = 0xA1#8 then some (.sknp (opX op))
    else none
  else none

/-- Family 0xF: the low byte decides. -/
def decodeFamilyF (op : Word) : Option Instr :=
  match opKk op with
  | 0x07#8 => some (.ldVxDt (opX op))
  | 0x0A#8 => some (.ldVxK (opX op))
  | 0x15#8 => some (.ldDtVx (opX op))
  | 0x18#8 => some (.ldStVx (opX op))
  | 0x1E#8 => some (.addI (opX op))
  | 0x29#8 => some (.ldF (opX op))
  | 0x33#8 => some (.ldB (opX op))
  | 0x55#8 => some (.storeRegs (opX op))
  | 0x65#8 => some (.loadRegs (opX op))
  | _ => none

/-- The row a word selects, if any (R76, R77, R82). The last arm is the sixteenth family, 0xF. -/
def decodeRow (keySkip : Bool) (op : Word) : Option Instr :=
  match opFamily op with
  | 0x0#4 => decodeFamily0 op
  | 0x1#4 => some (.jp (opNnn op))
  | 0x2#4 => some (.call (opNnn op))
  | 0x3#4 => some (.seByte (opX op) (opKk op))
  | 0x4#4 => some (.sneByte (opX op) (opKk op))
  | 0x5#4 => if opN op = 0x0#4 then some (.seReg (opX op) (opY op)) else none
  | 0x6#4 => some (.ldByte (opX op) (opKk op))
  | 0x7#4 => some (.addByte (opX op) (opKk op))
  | 0x8#4 => decodeFamily8 op
  | 0x9#4 => if opN op = 0x0#4 then some (.sneReg (opX op) (opY op)) else none
  | 0xA#4 => some (.ldI (opNnn op))
  | 0xB#4 => some (.jpV0 (opNnn op))
  | 0xC#4 => some (.rnd (opX op) (opKk op))
  | 0xD#4 => some (.drw (opX op) (opY op) (opN op))
  | 0xE#4 => decodeFamilyE keySkip op
  | _ => decodeFamilyF op

/-- Decode one word: its instruction, or UnknownOpcode with the raw word (R80, R102, R104). -/
def decodeWord (keySkip : Bool) (op : Word) : Except DecodeError Instr :=
  match decodeRow keySkip op with
  | some i => .ok i
  | none => .error (.unknownOpcode op)

/-- Decode the instruction at the front of a byte stream and give the rest of the stream (R58, R70). -/
def decodeBytes (keySkip : Bool) : List Byte → Except DecodeError (Instr × List Byte)
  | hi :: lo :: rest =>
    match decodeWord keySkip (wordOfBytes hi lo) with
    | .ok i => .ok (i, rest)
    | .error e => .error e
  | [_] => .error .truncated
  | [] => .error .truncated

/-! The encoder, from the formats of R73 and the fixed digits of R77. -/

/-- Format ADDR: `h nnn`. -/
def encAddr (h : Nibble) (nnn : Addr12) : Word := h ++ nnn

/-- Format RIMM: `h x kk`; format RSUB is the same with a fixed byte in place of kk. -/
def encRegByte (h : Nibble) (x : Reg) (kk : Byte) : Word := h ++ BitVec.ofFin (w := 4) x ++ kk

/-- Formats RR and RRN: `h x y d`. -/
def encRegReg (h : Nibble) (x y : Reg) (d : Nibble) : Word :=
  h ++ BitVec.ofFin (w := 4) x ++ BitVec.ofFin (w := 4) y ++ d

/-- The word of an instruction (R73, R77). -/
def encode (i : Instr) : Word :=
  match i with
  | .cls => 0x00E0#16
  | .ret => 0x00EE#16
  | .jp nnn => encAddr 0x1#4 nnn
  | .call nnn => encAddr 0x2#4 nnn
  | .seByte x kk => encRegByte 0x3#4 x kk
  | .sneByte x kk => encRegByte 0x4#4 x kk
  | .seReg x y => encRegReg 0x5#4 x y 0x0#4
  | .ldByte x kk => encRegByte 0x6#4 x kk
  | .addByte x kk => encRegByte 0x7#4 x kk
  | .ldReg x y => encRegReg 0x8#4 x y 0x0#4
  | .orReg x y => encRegReg 0x8#4 x y 0x1#4
  | .andReg x y => encRegReg 0x8#4 x y 0x2#4
  | .xorReg x y => encRegReg 0x8#4 x y 0x3#4
  | .addReg x y => encRegReg 0x8#4 x y 0x4#4
  | .sub x y => encRegReg 0x8#4 x y 0x5#4
  | .shr x y => encRegReg 0x8#4 x y 0x6#4
  | .subn x y => encRegReg 0x8#4 x y 0x7#4
  | .shl x y => encRegReg 0x8#4 x y 0xE#4
  | .sneReg x y => encRegReg 0x9#4 x y 0x0#4
  | .ldI nnn => encAddr 0xA#4 nnn
  | .jpV0 nnn => encAddr 0xB#4 nnn
  | .rnd x kk => encRegByte 0xC#4 x kk
  | .drw x y n => encRegReg 0xD#4 x y n
  | .skp x => encRegByte 0xE#4 x 0x9E#8
  | .sknp x => encRegByte 0xE#4 x 0xA1#8
  | .ldVxDt x => encRegByte 0xF#4 x 0x07#8
  | .ldVxK x => encRegByte 0xF#4 x 0x0A#8
  | .ldDtVx x => encRegByte 0xF#4 x 0x15#8
  | .ldStVx x => encRegByte 0xF#4 x 0x18#8
  | .addI x => encRegByte 0xF#4 x 0x1E#8
  | .ldF x => encRegByte 0xF#4 x 0x29#8
  | .ldB x => encRegByte 0xF#4 x 0x33#8
  | .storeRegs x => encRegByte 0xF#4 x 0x55#8
  | .loadRegs x => encRegByte 0xF#4 x 0x65#8

/-- The bytes of an instruction as memory holds them, lower address first (R58). -/
def encodeBytes (i : Instr) : List Byte := [highByte (encode i), lowByte (encode i)]

/-! The opcode map as data (R77), transcribed from its match and mask columns and not from the decoder. -/

/-- One row of the opcode map: a word `op` is the row's instruction when `op AND mask = value`. -/
structure OpRow where
  value : Word
  mask : Word
  deriving DecidableEq, Repr

/-- The row of R77 an instruction belongs to. -/
def rowOf (i : Instr) : OpRow :=
  match i with
  | .cls => ⟨0x00E0#16, 0xFFFF#16⟩
  | .ret => ⟨0x00EE#16, 0xFFFF#16⟩
  | .jp _ => ⟨0x1000#16, 0xF000#16⟩
  | .call _ => ⟨0x2000#16, 0xF000#16⟩
  | .seByte _ _ => ⟨0x3000#16, 0xF000#16⟩
  | .sneByte _ _ => ⟨0x4000#16, 0xF000#16⟩
  | .seReg _ _ => ⟨0x5000#16, 0xF00F#16⟩
  | .ldByte _ _ => ⟨0x6000#16, 0xF000#16⟩
  | .addByte _ _ => ⟨0x7000#16, 0xF000#16⟩
  | .ldReg _ _ => ⟨0x8000#16, 0xF00F#16⟩
  | .orReg _ _ => ⟨0x8001#16, 0xF00F#16⟩
  | .andReg _ _ => ⟨0x8002#16, 0xF00F#16⟩
  | .xorReg _ _ => ⟨0x8003#16, 0xF00F#16⟩
  | .addReg _ _ => ⟨0x8004#16, 0xF00F#16⟩
  | .sub _ _ => ⟨0x8005#16, 0xF00F#16⟩
  | .shr _ _ => ⟨0x8006#16, 0xF00F#16⟩
  | .subn _ _ => ⟨0x8007#16, 0xF00F#16⟩
  | .shl _ _ => ⟨0x800E#16, 0xF00F#16⟩
  | .sneReg _ _ => ⟨0x9000#16, 0xF00F#16⟩
  | .ldI _ => ⟨0xA000#16, 0xF000#16⟩
  | .jpV0 _ => ⟨0xB000#16, 0xF000#16⟩
  | .rnd _ _ => ⟨0xC000#16, 0xF000#16⟩
  | .drw _ _ _ => ⟨0xD000#16, 0xF000#16⟩
  | .skp _ => ⟨0xE09E#16, 0xF0FF#16⟩
  | .sknp _ => ⟨0xE0A1#16, 0xF0FF#16⟩
  | .ldVxDt _ => ⟨0xF007#16, 0xF0FF#16⟩
  | .ldVxK _ => ⟨0xF00A#16, 0xF0FF#16⟩
  | .ldDtVx _ => ⟨0xF015#16, 0xF0FF#16⟩
  | .ldStVx _ => ⟨0xF018#16, 0xF0FF#16⟩
  | .addI _ => ⟨0xF01E#16, 0xF0FF#16⟩
  | .ldF _ => ⟨0xF029#16, 0xF0FF#16⟩
  | .ldB _ => ⟨0xF033#16, 0xF0FF#16⟩
  | .storeRegs _ => ⟨0xF055#16, 0xF0FF#16⟩
  | .loadRegs _ => ⟨0xF065#16, 0xF0FF#16⟩

/-- Rows 1 to 23 of R77. -/
def opcodeRowsLow : List OpRow :=
  [⟨0x00E0#16, 0xFFFF#16⟩, ⟨0x00EE#16, 0xFFFF#16⟩, ⟨0x1000#16, 0xF000#16⟩, ⟨0x2000#16, 0xF000#16⟩,
   ⟨0x3000#16, 0xF000#16⟩, ⟨0x4000#16, 0xF000#16⟩, ⟨0x5000#16, 0xF00F#16⟩, ⟨0x6000#16, 0xF000#16⟩,
   ⟨0x7000#16, 0xF000#16⟩] ++
  [⟨0x8000#16, 0xF00F#16⟩, ⟨0x8001#16, 0xF00F#16⟩, ⟨0x8002#16, 0xF00F#16⟩, ⟨0x8003#16, 0xF00F#16⟩,
   ⟨0x8004#16, 0xF00F#16⟩, ⟨0x8005#16, 0xF00F#16⟩, ⟨0x8006#16, 0xF00F#16⟩, ⟨0x8007#16, 0xF00F#16⟩,
   ⟨0x800E#16, 0xF00F#16⟩] ++
  [⟨0x9000#16, 0xF00F#16⟩, ⟨0xA000#16, 0xF000#16⟩, ⟨0xB000#16, 0xF000#16⟩, ⟨0xC000#16, 0xF000#16⟩,
   ⟨0xD000#16, 0xF000#16⟩]

/-- Rows 24 and 25 of R77, the key skips. -/
def opcodeRowsKeySkip : List OpRow := [⟨0xE09E#16, 0xF0FF#16⟩, ⟨0xE0A1#16, 0xF0FF#16⟩]

/-- Rows 26 to 34 of R77. -/
def opcodeRowsHigh : List OpRow :=
  [⟨0xF007#16, 0xF0FF#16⟩, ⟨0xF00A#16, 0xF0FF#16⟩, ⟨0xF015#16, 0xF0FF#16⟩, ⟨0xF018#16, 0xF0FF#16⟩,
   ⟨0xF01E#16, 0xF0FF#16⟩, ⟨0xF029#16, 0xF0FF#16⟩, ⟨0xF033#16, 0xF0FF#16⟩, ⟨0xF055#16, 0xF0FF#16⟩,
   ⟨0xF065#16, 0xF0FF#16⟩]

/-- The opcode map: R77's rows, without the key skips when KEY_SKIP_IMPLEMENTED is false (R82). -/
def opcodeMap (keySkip : Bool) : List OpRow :=
  opcodeRowsLow ++ (if keySkip then opcodeRowsKeySkip else []) ++ opcodeRowsHigh

/-- What the decoder reads from a word numbered as spec/opcode_table.json numbers it, with every bit at or above
`nbits` zero, laid out big-endian (R58) and decoded under the default KEY_SKIP_IMPLEMENTED. -/
def decodeTableWord (nbits w : Nat) : Option Instr :=
  let op : Word := BitVec.ofNat Config.instrWidth (w % 2 ^ nbits)
  match decodeBytes true [highByte op, lowByte op] with
  | .ok (i, _) => some i
  | .error _ => none

end Sys2Proof
end

