-- ==== Sys2Proof/Config.lean ====
section
/-! DEFINITION. What one build of the core fixes (00_scope.md R6, R7; the widths of R6 stand in Word.lean), the
answers the host may give (60_exceptions.md R246), and the free values: constants with no body, one for each answer
the spec leaves to the host. Nothing can be proved of a free value but that it has its type. -/

namespace Sys2Proof

/-- PROGRAM_BASE: where programs load and execution starts (R6, R263). -/
abbrev Config.programBase : Nat := 0x200

/-- FONT_BASE: where the font table is copied (R6, R261). -/
@[simp] abbrev Config.fontBase : Nat := 0x000

/-- FONT_GLYPH_BYTES (R6, R33). -/
@[simp] abbrev Config.glyphBytes : Nat := 5

/-- FONT_GLYPHS: the digits 0 to F (R6, R33). -/
@[simp] abbrev Config.fontGlyphs : Nat := 16

/-- The size of the font table: FONT_GLYPHS glyphs of FONT_GLYPH_BYTES bytes (R6, R33). -/
@[simp] abbrev Config.fontBytes : Nat := Config.fontGlyphs * Config.glyphBytes

/-- FB_WIDTH (R6, R31). -/
abbrev Config.fbWidth : Nat := 64

/-- FB_HEIGHT (R6, R31). -/
abbrev Config.fbHeight : Nat := 32

/-- SPRITE_WIDTH (R6, R191). -/
abbrev Config.spriteWidth : Nat := 8

/-- SPRITE_MAX_ROWS: the most rows of a sprite, which are the most a 4-bit field `n` can name (R6, R191). -/
@[simp] abbrev Config.spriteMaxRows : Nat := 15

/-- Whether DT and ST count down between instructions (R7, R218). -/
inductive TimerModel where
  | externalCountdown
  | frozen
  deriving DecidableEq, Repr

/-- The construction parameters that some rule reads (R6, R7). They are carried in State so that every value of
them is modelled; no step changes them (notes/assumptions/3.md). -/
structure Params where
  /-- MEM_SIZE, in bytes. -/
  memSize : Nat
  /-- STACK_SIZE, in slots. -/
  stackSize : Nat
  /-- FONT: the bytes of the glyphs. -/
  font : Vector Byte Config.fontBytes
  /-- KEY_SKIP_IMPLEMENTED: whether Ex9E and ExA1 are rows of the opcode map (R82). -/
  keySkip : Bool
  /-- TIMER_MODEL. -/
  timerModel : TimerModel
  deriving DecidableEq, Repr

/-- The parameters fit the rest of the block: the program area starts inside memory (R262 subtracts PROGRAM_BASE
from MEM_SIZE), there is a slot, and an 8-bit SP can count every slot (R27).
DEDUCED, safe (notes/assumptions/4.md). -/
abbrev Params.wf (p : Params) : Prop :=
  Config.programBase ≤ p.memSize ∧ 1 ≤ p.stackSize ∧ p.stackSize ≤ 256

/-- What Display.render has answered when the core looks (R192, R246): nothing yet, success, or an error with its
label. A Display that never answers leaves the core stuck (R246). -/
inductive RenderAnswer where
  | pending
  | ok
  | error (e : Nat)
  deriving DecidableEq, Repr, Inhabited

/-- What Keypad.getKey has answered when the waiting core looks (R210, R215): nothing yet, a key code, a
cancellation, or an error with its label. A code above 15 breaks the contract and is a failure (R215). -/
inductive KeyPoll where
  | pending
  | key (code : Nat)
  | cancel
  | error (e : Nat)
  deriving DecidableEq, Repr, Inhabited

/-- What the host and the timer agent do at one instruction boundary: call stop() or not (R109), and how many
countdown steps each timer takes (R218). -/
structure HostAct where
  stop : Bool
  dtSteps : Nat
  stSteps : Nat
  deriving DecidableEq, Repr, Inhabited

/-- The host's side as plain data: for each kind of answer, the answers already fixed, next first. When a list
is used up the answer is a free value of Config applied to `draws` (notes/assumptions/6.md to 11.md, 15.md). -/
structure HostInputs where
  /-- Random bytes (R153). -/
  rng : List Byte
  /-- Answers of Keypad.keyDown (R211). -/
  keyDowns : List Bool
  /-- Answers of Keypad.getKey (R210). -/
  polls : List KeyPoll
  /-- Answers of Display.render (R192). -/
  renders : List RenderAnswer
  /-- What happens at the next instruction boundaries (R109, R218). -/
  acts : List HostAct
  /-- How many answers have been taken. -/
  draws : Nat
  deriving DecidableEq, Repr

/-- Free value: a random byte (R153, any value). -/
opaque Config.freeByte : Nat → Byte

/-- Free value: the answer of keyDown for a key (R211, both answers admitted at every call). -/
opaque Config.freeKeyDown : Nat → Byte → Bool

/-- Free value: what getKey has answered (R210, any answer, or none yet). -/
opaque Config.freeKeyPoll : Nat → KeyPoll

/-- Free value: what the Display has answered (R192, R246, ok or any error, or nothing yet). -/
opaque Config.freeRender : Nat → RenderAnswer

/-- Free value: how many steps the timer agent takes on DT (R218, any finite number). -/
opaque Config.freeDtSteps : Nat → Nat

/-- Free value: how many steps the timer agent takes on ST (R218, any finite number). -/
opaque Config.freeStSteps : Nat → Nat

end Sys2Proof
end

