-- ==== Sys2Proof/Machine/Defaults.lean ====
section
/-! DEFINITION. The values a default construction uses: the parameters of 00_scope.md R6 and R7, and the font
table of 10_state.md R33. -/

namespace Sys2Proof.Machine

/-- Glyphs 0 to 7 (R33). PRESUMED by the spec itself (general knowledge, decision D27), unsafe
(notes/assumptions/5.md). -/
def fontLow : List Byte :=
  [0xF0, 0x90, 0x90, 0x90, 0xF0] ++ [0x20, 0x60, 0x20, 0x20, 0x70] ++
  [0xF0, 0x10, 0xF0, 0x80, 0xF0] ++ [0xF0, 0x10, 0xF0, 0x10, 0xF0] ++
  [0x90, 0x90, 0xF0, 0x10, 0x10] ++ [0xF0, 0x80, 0xF0, 0x10, 0xF0] ++
  [0xF0, 0x80, 0xF0, 0x90, 0xF0] ++ [0xF0, 0x10, 0x20, 0x40, 0x40]

/-- Glyphs 8 to F (R33). -/
def fontHigh : List Byte :=
  [0xF0, 0x90, 0xF0, 0x90, 0xF0] ++ [0xF0, 0x90, 0xF0, 0x10, 0xF0] ++
  [0xF0, 0x90, 0xF0, 0x90, 0x90] ++ [0xE0, 0x90, 0xE0, 0x90, 0xE0] ++
  [0xF0, 0x80, 0x80, 0x80, 0xF0] ++ [0xE0, 0x90, 0x90, 0x90, 0xE0] ++
  [0xF0, 0x80, 0xF0, 0x80, 0xF0] ++ [0xF0, 0x80, 0xF0, 0x80, 0x80]

/-- The default FONT (R7, R33). -/
def standardFont : Vector Byte Config.fontBytes := ⟨⟨fontLow ++ fontHigh⟩, rfl⟩

/-- The parameters this hardware takes (R6, R7). -/
def defaultParams : Params where
  memSize := 4096
  stackSize := 16
  font := standardFont
  keySkip := true
  timerModel := .externalCountdown

/-- The host's scripts at reset: none, so every answer is a free value and no stop request is under way.
DESIGN CHOICE, unsafe (notes/assumptions/15.md). -/
def emptyHost : HostInputs where
  rng := []
  keyDowns := []
  polls := []
  renders := []
  acts := []
  draws := 0

end Sys2Proof.Machine
end

