-- ==== Sys2Proof/Machine/State.lean ====
section
/-! DEFINITION. The state of one core (10_state.md R20), its reset (R37), and the ways a step can stop. -/

namespace Sys2Proof.Machine

/-- The graphics buffer: 64 by 32 one-bit cells, row-major (R31). Cell `p` is bit `p`; it is read with
`getLsbD` and changed by XOR alone (R193), never used as a number. -/
abbrev Framebuffer := BitVec 2048

/-- The error value recorded with KeypadFailure (R231, R236): the backend's own label, or a key code above 15,
which breaks the capability's contract (R215, D34). DESIGN CHOICE, safe (notes/assumptions/12.md, 13.md). -/
inductive KeypadError where
  | backend (e : Nat)
  | badKeyCode (code : Nat)
  deriving DecidableEq, Repr

/-- Why a program could not be loaded (R231, R262). -/
inductive LoadError where
  | readError
  | outOfMemory (length : Nat)
  deriving DecidableEq, Repr

/-- How a run ends, or why no core or program exists (R231), with the information recorded. -/
inductive RunOutcome where
  | cancellation
  | unknownOpcode (op : Word)
  | stackOverflow (pc : Word)
  | stackUnderflow (pc : Word)
  | keypadFailure (e : KeypadError)
  | renderFailure (e : Nat)
  | loadFailure (e : LoadError)
  | configurationError (frequency : Int)
  deriving DecidableEq, Repr

/-- What the loop is doing (R36). -/
inductive Status where
  | running
  | waitingForKey (x : Reg)
  | halted (o : RunOutcome)
  deriving DecidableEq, Repr

/-- The state of one core: the tuple of R20, each register at its width of R6, then four fields of the model's own
(`rendering`, `params`, `host`, `frames`; INVENTORY.md, State). -/
structure State where
  /-- Memory (R50): address and byte, addresses rising, and no entry equal to what an unlisted address reads as. -/
  mem : List Host.Cell
  /-- V0 to VF (R21). -/
  v : Vector (BitVec Config.vWidth) Config.numV
  /-- The address register I (R26). -/
  i : BitVec Config.iWidth
  /-- The program counter (R24). -/
  pc : BitVec Config.pcWidth
  /-- The stack pointer (R27). -/
  sp : BitVec Config.spWidth
  /-- The call stack, slot 0 first (R27). -/
  stack : List (BitVec Config.stackEntryWidth)
  /-- The delay timer DT (R30). -/
  dt : BitVec Config.timerWidth
  /-- The sound timer ST (R30). -/
  st : BitVec Config.timerWidth
  /-- The graphics buffer (R31). -/
  fb : Framebuffer
  /-- The stop flag (R35). -/
  stopRequested : Bool
  /-- The loop's status (R36). -/
  status : Status
  /-- A call of Display.render is under way: the snapshot is handed over and the Display has not answered (R192,
  R246; notes/assumptions/9.md). -/
  rendering : Bool
  /-- The construction parameters; no step changes them. -/
  params : Params
  /-- The host's pending answers. -/
  host : HostInputs
  /-- The snapshots handed to the Display so far, newest first (R256). -/
  frames : List Framebuffer
  deriving DecidableEq, Repr

/-- A core just constructed with these parameters (R37, R260, R261). Memory lists nothing: an unlisted address
reads as its contents after construction, the font included. -/
def State.initial (p : Params) : State where
  mem := []
  v := Vector.replicate Config.numV 0
  i := 0
  pc := BitVec.ofNat Config.pcWidth Config.programBase
  sp := 0
  stack := List.replicate p.stackSize 0
  dt := 0
  st := 0
  fb := 0
  stopRequested := false
  status := .running
  rendering := false
  params := p
  host := emptyHost
  frames := []

/-- The core right after construction with the default parameters (R37). -/
def State.reset : State := State.initial defaultParams

/-- What stops the machine outside the spec's own outcomes. An error of R231 is no fault: the spec gives its
effect, so it is a next state whose status is halted (notes/assumptions/1.md). -/
inductive Fault where
  /-- Raised by RET and CALL when the stack slot they name does not exist, in a state whose stack is shorter than
  STACK_SIZE or whose SP lies outside it. No reachable state is such a state (R28). Safe
  (notes/assumptions/14.md). -/
  | noSuchStackSlot (slot : Nat)
  deriving DecidableEq, Repr

/-- What has no meaning. -/
inductive Refusal where
  /-- Raised by exec for an instruction not modelled; no instruction is. Safe. -/
  | notModelled (mnemonic : String)
  /-- Raised by step on a halted core: the spec gives no meaning to running it again (R244, U19). Safe
  (notes/assumptions/2.md). -/
  | haltedCore
  deriving DecidableEq, Repr

end Sys2Proof.Machine
end

