-- ==== Sys2Proof/Machine/Ops.lean ====
section
/-! DEFINITION. The named operations over memory, registers, stack, host and loop. Everything an instruction does
is done through these. -/

namespace Sys2Proof.Machine

/-! ### Loops -/

/-- `for k in 0 .. n-1: a <- f k a`, in rising order of k. -/
def forRange {α : Type} (f : Nat → α → α) : Nat → α → α
  | 0, a => a
  | n + 1, a => f n (forRange f n a)

/-! ### Memory cells (20_memory.md) -/

/-- Byte `k` of FONT, and 0 beyond its end (R33). -/
def fontByte (p : Params) (k : Nat) : Byte := if h : k < Config.fontBytes then p.font[k] else 0

/-- What an unlisted address reads as: the contents after construction, FONT at FONT_BASE and 0 elsewhere
(R37, R56, R261). -/
def memBackground (p : Params) (a : Nat) : Byte :=
  if Config.fontBase ≤ a then fontByte p (a - Config.fontBase) else 0

/-- The byte listed for `a`, or what an unlisted address reads as. -/
def memGet (p : Params) : List Host.Cell → Nat → Byte
  | [], a => memBackground p a
  | c :: m, a => if c.1 = a then c.2 else memGet p m a

/-- List `v` at `a`, keeping the addresses rising. -/
def memPut : List Host.Cell → Nat → Byte → List Host.Cell
  | [], a, v => [(a, v)]
  | c :: m, a, v =>
    if a < c.1 then (a, v) :: c :: m
    else if c.1 = a then (a, v) :: m
    else c :: memPut m a v

/-- List nothing at `a`. -/
def memDrop (m : List Host.Cell) (a : Nat) : List Host.Cell := m.filter (fun c => c.1 != a)

/-- Make `a` read as `v`, in the canonical form. -/
def memSet (p : Params) (m : List Host.Cell) (a : Nat) (v : Byte) : List Host.Cell :=
  if v = memBackground p a then memDrop m a else memPut m a v

/-- The canonical form of memory: addresses strictly rising and inside memory, and no entry equal to what an
unlisted address reads as. -/
abbrev Memory.wf (p : Params) (m : List Host.Cell) : Prop :=
  m.Pairwise (fun c d => c.1 < d.1) ∧ ∀ c ∈ m, c.1 < p.memSize ∧ c.2 ≠ memBackground p c.1

/-! ### Memory accesses (R52 to R54) -/

/-- `MemRead(a, 1)`: the byte at `a mod MEM_SIZE`; never a fault (R53, R55). -/
def State.readMem (s : State) (a : Nat) : Byte := memGet s.params s.mem (a % s.params.memSize)

/-- `MemWrite(a, 1, b)`: the byte at `a mod MEM_SIZE` becomes `b`; never a fault (R54, R55). -/
def State.writeMem (s : State) (a : Nat) (b : Byte) : State :=
  { s with mem := memSet s.params s.mem (a % s.params.memSize) b }

/-! ### Registers -/

/-- Read V[x] (R21). -/
def State.reg (s : State) (x : Reg) : Byte := s.v[x]

/-- Write V[x] (R21). -/
def State.setReg (s : State) (x : Reg) (b : Byte) : State := { s with v := s.v.set x.val b x.isLt }

/-- Write I (R26). -/
def State.setI (s : State) (w : Word) : State := { s with i := w }

/-- Write PC (R25). -/
def State.setPc (s : State) (w : Word) : State := { s with pc := w }

/-- Write SP (R27). -/
def State.setSp (s : State) (b : Byte) : State := { s with sp := b }

/-- Write stack slot `j` (R27). -/
def State.setSlot (s : State) (j : Nat) (w : Word) : State := { s with stack := s.stack.set j w }

/-- Write DT (R30). -/
def State.setDt (s : State) (b : Byte) : State := { s with dt := b }

/-- Write ST (R30). -/
def State.setSt (s : State) (b : Byte) : State := { s with st := b }

/-- Write the graphics buffer (R31). -/
def State.setFb (s : State) (f : Framebuffer) : State := { s with fb := f }

/-- Write the loop's status (R36). -/
def State.setStatus (s : State) (t : Status) : State := { s with status := t }

/-- Note whether a call of Display.render is under way (R192). -/
def State.setRendering (s : State) (b : Bool) : State := { s with rendering := b }

/-- `advance()`: PC + 2 modulo 2^16 (R106). -/
def State.advance (s : State) : State := s.setPc (s.pc + 2)

/-- `skipIf(c)`: PC + 4 when `c` holds, else PC + 2, modulo 2^16 (R106). -/
def State.skipIf (s : State) (c : Bool) : State := s.setPc (s.pc + 2 + (if c then 2 else 0))

/-! ### Ending the run (60_exceptions.md) -/

/-- `raise E`: the run ends with an error. Writes already made stay, PC keeps the address of the instruction that
raised, and nothing else is saved or changed (R232, R243). It is also `halt Cancellation`, the clean end (R238).
There is no way back from it: the core has no trap return, and Halted is final (R244). -/
def State.raise (s : State) (o : RunOutcome) : State := s.setStatus (.halted o)

/-- The numeric code of an outcome (R231, D31). -/
def RunOutcome.code : RunOutcome → Nat
  | .cancellation => 0
  | .unknownOpcode _ => 1
  | .stackOverflow _ => 2
  | .stackUnderflow _ => 3
  | .keypadFailure _ => 4
  | .renderFailure _ => 5
  | .loadFailure _ => 6
  | .configurationError _ => 7

/-! ### The host's answers (R246)

Each answer is read with `next…` and used up with `take…`. -/

/-- The next random byte: scripted, else any value (R153). DESIGN CHOICE, safe (notes/assumptions/6.md). -/
def State.nextByte (s : State) : Byte := s.host.rng.headD (Config.freeByte s.host.draws)

/-- Use up the random byte. -/
def State.takeByte (s : State) : State :=
  { s with host := { s.host with rng := s.host.rng.tail, draws := s.host.draws + 1 } }

/-- `Keypad.keyDown(b)`: scripted, else either answer (R211). DESIGN CHOICE, safe (notes/assumptions/7.md). -/
def State.nextKeyDown (s : State) (b : Byte) : Bool :=
  s.host.keyDowns.headD (Config.freeKeyDown s.host.draws b)

/-- Use up the answer of keyDown. -/
def State.takeKeyDown (s : State) : State :=
  { s with host := { s.host with keyDowns := s.host.keyDowns.tail, draws := s.host.draws + 1 } }

/-- What `Keypad.getKey()` has answered: scripted, else any answer or none yet (R210). DESIGN CHOICE, safe
(notes/assumptions/8.md). -/
def State.nextPoll (s : State) : KeyPoll := s.host.polls.headD (Config.freeKeyPoll s.host.draws)

/-- Use up the answer of getKey. -/
def State.takePoll (s : State) : State :=
  { s with host := { s.host with polls := s.host.polls.tail, draws := s.host.draws + 1 } }

/-- What `Display.render` has answered: scripted, else ok, any error, or nothing yet (R192, R246). DESIGN CHOICE,
safe (notes/assumptions/9.md). -/
def State.nextRender (s : State) : RenderAnswer := s.host.renders.headD (Config.freeRender s.host.draws)

/-- Use up the answer of render. -/
def State.takeRender (s : State) : State :=
  { s with host := { s.host with renders := s.host.renders.tail, draws := s.host.draws + 1 } }

/-- Hand the Display a snapshot of the buffer (R192). -/
def State.showFrame (s : State) : State := { s with frames := s.fb :: s.frames }

/-- CLS and DRW from the wait for the Display on (R192, R194, R195, R237, R247): on success PC advances; an error
raises RenderFailure; with no answer yet the call stays under way and nothing else changes, so that a Display that
never answers leaves the core stuck, not faulted (R246). -/
def State.awaitDisplay (s : State) : State :=
  match s.nextRender with
  | .pending => s.takeRender.setRendering true
  | .ok => (s.takeRender.setRendering false).advance
  | .error e => (s.takeRender.setRendering false).raise (.renderFailure e)

/-- `render()` and then `advance()`, the common end of CLS and DRW (R192, R194, R195). -/
def State.renderThenAdvance (s : State) : State := s.showFrame.awaitDisplay

/-- The wait of Fx0A from `Keypad.getKey()` on (R215): a key is stored and the core runs on; a cancellation ends
the run cleanly; an error or a code above 15 raises KeypadFailure; with no answer yet the core waits. -/
def State.awaitKey (s : State) (x : Reg) : State :=
  match s.nextPoll with
  | .pending => s.takePoll.setStatus (.waitingForKey x)
  | .key code =>
    if code < 2 ^ Config.keyWidth then
      ((s.takePoll.setStatus .running).setReg x (BitVec.ofNat Config.vWidth code)).advance
    else s.takePoll.raise (.keypadFailure (.badKeyCode code))
  | .cancel => s.takePoll.raise .cancellation
  | .error e => s.takePoll.raise (.keypadFailure (.backend e))

/-! ### Between two instructions -/

/-- `stop()`: set the stop flag, which stays set (R35, R109). -/
def State.requestStop (s : State) : State := { s with stopRequested := true }

/-- One countdown step of a timer (R218). -/
def timerTick (b : Byte) : Byte := if b = 0 then b else b - 1

/-- `n` countdown steps of a timer at once: down to 0 and no further (R218). -/
def countDown (n : Nat) (b : Byte) : Byte := if b = 0 then b else BitVec.ofNat 8 (b.toNat - n)

/-- What happens at the next boundary: scripted, else no stop request and any number of countdown steps (R218).
DESIGN CHOICE, unsafe in the stop request only (notes/assumptions/10.md, 11.md). -/
def State.nextAct (s : State) : HostAct :=
  s.host.acts.headD
    { stop := false
      dtSteps := Config.freeDtSteps s.host.draws
      stSteps := Config.freeStSteps s.host.draws }

/-- Use up the boundary's script entry. -/
def State.takeAct (s : State) : State :=
  { s with host := { s.host with acts := s.host.acts.tail, draws := s.host.draws + 1 } }

/-- The timer agent's steps; with TIMER_MODEL frozen it takes none (R218). -/
def State.timerAgent (s : State) (a : HostAct) : State :=
  match s.params.timerModel with
  | .externalCountdown => (s.setDt (countDown a.dtSteps s.dt)).setSt (countDown a.stSteps s.st)
  | .frozen => s

/-- A stop request of the host, if it makes one (R109). -/
def State.stopIf (s : State) (b : Bool) : State := if b then s.requestStop else s

/-- Everything other agents do before the loop's next step (R109, R218, R241). -/
def State.hostActs (s : State) : State := (s.takeAct.timerAgent s.nextAct).stopIf s.nextAct.stop

/-! ### Fetch (40_dispatch.md R101) -/

/-- The opcode at PC: two byte reads, big-endian; it changes nothing and never faults (R58, R101). -/
def State.fetchWord (s : State) : BitVec Config.instrWidth :=
  wordOfBytes (s.readMem s.pc.toNat) (s.readMem (s.pc.toNat + 1))

end Sys2Proof.Machine
end

