-- ==== Sys2Proof/Machine/Operands.lean ====
section
/-! DEFINITION. Operand forms and the 8-bit results (30_encoding.md R74, 42_alu.md R140, 43_index_memory.md R176).
Results are computed exactly on natural numbers and then narrowed. -/

namespace Sys2Proof.Machine

/-- `zext_16(nnn)`: an address field as a 16-bit value (R74, R120). -/
def addrWord (nnn : Addr12) : Word := nnn.setWidth 16

/-- `zext_16(b)`: a byte as a 16-bit value (R128, R171). -/
def byteWord (b : Byte) : Word := b.setWidth 16

/-- The effective address of the k-th byte of a data access, before the reduction modulo MEM_SIZE (R52, R176). -/
def State.dataAddr (s : State) (k : Nat) : Nat := s.i.toNat + k

/-- `(a + b) mod 256` (R142, R147). -/
def addResult (a b : Byte) : Byte := BitVec.ofNat 8 ((a.toNat + b.toNat) % 256)

/-- `(a + 256 - b) mod 256` (R148, R150). -/
def subResult (a b : Byte) : Byte := BitVec.ofNat 8 ((a.toNat + 256 - b.toNat) % 256)

/-- `a >> 1` (R149). -/
def shrResult (a : Byte) : Byte := BitVec.ofNat 8 (a.toNat / 2)

/-- `(a << 1) mod 256` (R151). -/
def shlResult (a : Byte) : Byte := BitVec.ofNat 8 (a.toNat * 2 % 256)

/-- The hundreds digit of a byte (R173). -/
def bcdHundreds (b : Byte) : Byte := BitVec.ofNat 8 (b.toNat / 100)

/-- The tens digit of a byte (R173). -/
def bcdTens (b : Byte) : Byte := BitVec.ofNat 8 (b.toNat / 10 % 10)

/-- The ones digit of a byte (R173). -/
def bcdOnes (b : Byte) : Byte := BitVec.ofNat 8 (b.toNat % 10)

/-- The address of the glyph for a byte: the byte times 5, with no masking (R172). -/
def glyphAddr (b : Byte) : Word := BitVec.ofNat 16 (b.toNat * Config.glyphBytes)

end Sys2Proof.Machine
end

