-- ==== Sys2Proof/Machine/Flags.lean ====
section
/-! DEFINITION. The flag outcomes written to VF (10_state.md R32; 42_alu.md R140, R154; 44_graphics.md R195). VF is
the core's only flag. -/

namespace Sys2Proof.Machine

/-- A flag as VF holds it: 1 or 0. -/
def flagByte (b : Bool) : Byte := if b then 1 else 0

/-- The carry of an addition: the 9-bit sum exceeds 0xFF (R147). -/
def carryOut (a b : Byte) : Bool := decide (a.toNat + b.toNat > 0xFF)

/-- The not-borrow of `a - b`: strict, so equal operands give 0 (R148, R150). -/
def notBorrow (a b : Byte) : Bool := decide (a.toNat > b.toNat)

/-- The bit a right shift moves out of the low end (R149). -/
def lowBitOut (a : Byte) : Bool := a.getLsbD 0

/-- The bit a left shift moves out of the high end (R151). -/
def highBitOut (a : Byte) : Bool := a.getLsbD 7

/-- Write a result to V[x] and then a flag to VF, in this order: with x = F the flag is what VF holds
(R22, R140). -/
def State.setResultAndFlag (s : State) (x : Reg) (result : Byte) (flag : Bool) : State :=
  (s.setReg x result).setReg Reg.flag (flagByte flag)

end Sys2Proof.Machine
end

