-- ==== Sys2Proof/Machine/Alu.lean ====
section
/-! DEFINITION. Register loads and arithmetic (42_alu.md). Operands are read before anything is written (R140). -/

namespace Sys2Proof.Machine

/-- LD Vx, byte (R141). -/
def execLdByte (x : Reg) (kk : Byte) (s : State) : Host.Outcome State Fault Refusal :=
  .next (s.setReg x kk).advance

/-- ADD Vx, byte (R142): VF is not written, even on overflow. -/
def execAddByte (x : Reg) (kk : Byte) (s : State) : Host.Outcome State Fault Refusal :=
  .next (s.setReg x (addResult (s.reg x) kk)).advance

/-- LD Vx, Vy (R143). -/
def execLdReg (x y : Reg) (s : State) : Host.Outcome State Fault Refusal :=
  .next (s.setReg x (s.reg y)).advance

/-- OR Vx, Vy (R144): VF is not written. -/
def execOrReg (x y : Reg) (s : State) : Host.Outcome State Fault Refusal :=
  .next (s.setReg x (s.reg x ||| s.reg y)).advance

/-- AND Vx, Vy (R145): VF is not written. -/
def execAndReg (x y : Reg) (s : State) : Host.Outcome State Fault Refusal :=
  .next (s.setReg x (s.reg x &&& s.reg y)).advance

/-- XOR Vx, Vy (R146): VF is not written. -/
def execXorReg (x y : Reg) (s : State) : Host.Outcome State Fault Refusal :=
  .next (s.setReg x (s.reg x ^^^ s.reg y)).advance

/-- ADD Vx, Vy (R147): VF = carry. -/
def execAddReg (x y : Reg) (s : State) : Host.Outcome State Fault Refusal :=
  .next (s.setResultAndFlag x (addResult (s.reg x) (s.reg y)) (carryOut (s.reg x) (s.reg y))).advance

/-- SUB Vx, Vy (R148): VF = not borrow of Vx - Vy. -/
def execSub (x y : Reg) (s : State) : Host.Outcome State Fault Refusal :=
  .next (s.setResultAndFlag x (subResult (s.reg x) (s.reg y)) (notBorrow (s.reg x) (s.reg y))).advance

/-- SHR Vx (R149): VF = the old bit 0 of Vx. The field y has no effect (R78). -/
def execShr (x _y : Reg) (s : State) : Host.Outcome State Fault Refusal :=
  .next (s.setResultAndFlag x (shrResult (s.reg x)) (lowBitOut (s.reg x))).advance

/-- SUBN Vx, Vy (R150): VF = not borrow of Vy - Vx. -/
def execSubn (x y : Reg) (s : State) : Host.Outcome State Fault Refusal :=
  .next (s.setResultAndFlag x (subResult (s.reg y) (s.reg x)) (notBorrow (s.reg y) (s.reg x))).advance

/-- SHL Vx (R151): VF = the old bit 7 of Vx. The field y has no effect (R78). -/
def execShl (x _y : Reg) (s : State) : Host.Outcome State Fault Refusal :=
  .next (s.setResultAndFlag x (shlResult (s.reg x)) (highBitOut (s.reg x))).advance

/-- RND Vx, byte (R152): a random byte AND kk. -/
def execRnd (x : Reg) (kk : Byte) (s : State) : Host.Outcome State Fault Refusal :=
  .next (s.takeByte.setReg x (s.nextByte &&& kk)).advance

end Sys2Proof.Machine
end

