-- ==== Sys2Proof/Machine/ControlFlow.lean ====
section
/-! DEFINITION. Control flow (41_control_flow.md). -/

namespace Sys2Proof.Machine

/-- RET (R121): with SP = 0 it raises StackUnderflow and nothing changes; else PC becomes the slot at SP plus 2,
and then SP is decremented. The slot is not cleared. -/
def execRet (s : State) : Host.Outcome State Fault Refusal :=
  if s.sp = 0 then .next (s.raise (.stackUnderflow s.pc))
  else
    match s.stack[s.sp.toNat]? with
    | some w => .next ((s.setPc (w + 2)).setSp (s.sp - 1))
    | none => .fault (.noSuchStackSlot s.sp.toNat)

/-- JP addr (R123). -/
def execJp (nnn : Addr12) (s : State) : Host.Outcome State Fault Refusal :=
  .next (s.setPc (addrWord nnn))

/-- CALL addr (R122): with no slot left it raises StackOverflow and nothing changes; else SP is incremented, the
slot at the new SP receives the CALL's own address, and PC becomes the target. -/
def execCall (nnn : Addr12) (s : State) : Host.Outcome State Fault Refusal :=
  if s.sp.toNat + 1 ≥ s.params.stackSize then .next (s.raise (.stackOverflow s.pc))
  else if s.sp.toNat + 1 < s.stack.length then
    .next (((s.setSp (s.sp + 1)).setSlot (s.sp.toNat + 1) s.pc).setPc (addrWord nnn))
  else .fault (.noSuchStackSlot (s.sp.toNat + 1))

/-- SE Vx, byte (R124). -/
def execSeByte (x : Reg) (kk : Byte) (s : State) : Host.Outcome State Fault Refusal :=
  .next (s.skipIf (decide (s.reg x = kk)))

/-- SNE Vx, byte (R125). -/
def execSneByte (x : Reg) (kk : Byte) (s : State) : Host.Outcome State Fault Refusal :=
  .next (s.skipIf (decide (s.reg x ≠ kk)))

/-- SE Vx, Vy (R126). -/
def execSeReg (x y : Reg) (s : State) : Host.Outcome State Fault Refusal :=
  .next (s.skipIf (decide (s.reg x = s.reg y)))

/-- SNE Vx, Vy (R127). -/
def execSneReg (x y : Reg) (s : State) : Host.Outcome State Fault Refusal :=
  .next (s.skipIf (decide (s.reg x ≠ s.reg y)))

/-- JP V0, addr (R128): the offset register is V0. -/
def execJpV0 (nnn : Addr12) (s : State) : Host.Outcome State Fault Refusal :=
  .next (s.setPc (addrWord nnn + byteWord (s.reg 0)))

end Sys2Proof.Machine
end

