-- ==== Sys2Proof/Machine/Graphics.lean ====
section
/-! DEFINITION. The sprite compositor and the graphics instructions (44_graphics.md). -/

namespace Sys2Proof.Machine

/-- The cell of a pixel, wrapping on both axes (R190). -/
def cell (px py : Nat) : Fin 2048 :=
  ⟨(py % Config.fbHeight) * Config.fbWidth + px % Config.fbWidth, by
    have hx : px % 64 < 64 := Nat.mod_lt _ (by decide)
    have hy : py % 32 < 32 := Nat.mod_lt _ (by decide)
    show py % 32 * 64 + px % 64 < 2048
    omega⟩

/-- One sprite bit at one cell: a bit of 1 flips the cell and collides when the cell was lit; a bit of 0 does
nothing (R191). The second component is whether a collision has been seen. -/
def plot (bit : Bool) (p : Fin 2048) (acc : Framebuffer × Bool) : Framebuffer × Bool :=
  if bit then (acc.1 ^^^ BitVec.twoPow 2048 p.val, acc.2 || acc.1.getLsbD p.val) else acc

/-- One row of a sprite: bit 7 is column 0, the leftmost (R191). -/
def plotRow (xs y : Nat) (row : Byte) (acc : Framebuffer × Bool) : Framebuffer × Bool :=
  forRange (fun c acc => plot (row.getLsbD (7 - c)) (cell (xs + c) y) acc) Config.spriteWidth acc

/-- `composite(xs, ys, rows)` with `n` rows: the new buffer and whether a collision occurred (R191). -/
def composite (xs ys n : Nat) (rows : Nat → Byte) (fb : Framebuffer) : Framebuffer × Bool :=
  forRange (fun r acc => plotRow xs (ys + r) (rows r) acc) n (fb, false)

/-- Every cell off (R194). -/
def clearedFb : Framebuffer := 0

/-- CLS (R194): clear, render, advance. -/
def execCls (s : State) : Host.Outcome State Fault Refusal :=
  .next (s.setFb clearedFb).renderThenAdvance

/-- Row `r` of the sprite at I (R195). -/
def State.spriteRow (s : State) (r : Nat) : Byte := s.readMem (s.dataAddr r)

/-- How many rows DRW draws: its field `n`, which names no more than SPRITE_MAX_ROWS (R191, R195). -/
def rowCount (n : Nibble) : Fin (Config.spriteMaxRows + 1) := n.toFin

/-- What DRW composes (R195): `n` rows at I, drawn at (Vx, Vy) as they are before VF is written. -/
def State.drawn (s : State) (x y : Reg) (n : Nibble) : Framebuffer × Bool :=
  composite (s.reg x).toNat (s.reg y).toNat (rowCount n).val s.spriteRow s.fb

/-- DRW Vx, Vy, nibble (R195): the buffer, then VF, then render, then advance. -/
def execDrw (x y : Reg) (n : Nibble) (s : State) : Host.Outcome State Fault Refusal :=
  .next ((s.setFb (s.drawn x y n).1).setReg Reg.flag (flagByte (s.drawn x y n).2)).renderThenAdvance

end Sys2Proof.Machine
end

