-- ==== Sys2Proof/Machine/IndexMemory.lean ====
section
/-! DEFINITION. The address register and memory transfers (43_index_memory.md). No access changes I (R176). -/

namespace Sys2Proof.Machine

/-- LD I, addr (R170). -/
def execLdI (nnn : Addr12) (s : State) : Host.Outcome State Fault Refusal :=
  .next (s.setI (addrWord nnn)).advance

/-- ADD I, Vx (R171): modulo 2^16, VF is not written. -/
def execAddI (x : Reg) (s : State) : Host.Outcome State Fault Refusal :=
  .next (s.setI (s.i + byteWord (s.reg x))).advance

/-- LD F, Vx (R172). -/
def execLdF (x : Reg) (s : State) : Host.Outcome State Fault Refusal :=
  .next (s.setI (glyphAddr (s.reg x))).advance

/-- The three writes of LD B, in their order (R173). -/
def State.storeBcd (s : State) (b : Byte) : State :=
  ((s.writeMem (s.dataAddr 0) (bcdHundreds b)).writeMem (s.dataAddr 1) (bcdTens b)).writeMem (s.dataAddr 2)
    (bcdOnes b)

/-- LD B, Vx (R173). -/
def execLdB (x : Reg) (s : State) : Host.Outcome State Fault Refusal :=
  .next (s.storeBcd (s.reg x)).advance

/-- One turn of LD [I], Vx: `MemWrite(I + k, 1, V[k])` (R174). -/
def State.storeOne (k : Nat) (s : State) : State := s.writeMem (s.dataAddr k) (s.reg (Fin.ofNat Config.numV k))

/-- LD [I], Vx (R174): V0 to Vx inclusive, in rising order. -/
def execStoreRegs (x : Reg) (s : State) : Host.Outcome State Fault Refusal :=
  .next (forRange State.storeOne (x.val + 1) s).advance

/-- One turn of LD Vx, [I]: `V[k] <- MemRead(I + k, 1)` (R175). -/
def State.loadOne (k : Nat) (s : State) : State := s.setReg (Fin.ofNat Config.numV k) (s.readMem (s.dataAddr k))

/-- LD Vx, [I] (R175): V0 to Vx inclusive, in rising order. -/
def execLoadRegs (x : Reg) (s : State) : Host.Outcome State Fault Refusal :=
  .next (forRange State.loadOne (x.val + 1) s).advance

end Sys2Proof.Machine
end

