-- ==== Sys2Proof/Machine/TimersKeypad.lean ====
section
/-! DEFINITION. Timers and keypad (45_timers_keypad.md). -/

namespace Sys2Proof.Machine

/-- LD Vx, DT (R212). -/
def execLdVxDt (x : Reg) (s : State) : Host.Outcome State Fault Refusal :=
  .next (s.setReg x s.dt).advance

/-- LD DT, Vx (R213). -/
def execLdDtVx (x : Reg) (s : State) : Host.Outcome State Fault Refusal :=
  .next (s.setDt (s.reg x)).advance

/-- LD ST, Vx (R214). -/
def execLdStVx (x : Reg) (s : State) : Host.Outcome State Fault Refusal :=
  .next (s.setSt (s.reg x)).advance

/-- LD Vx, K (R215): with the Keypad's answer at hand it completes in this step; with none it leaves the core
waiting, and step takes the wait up again. -/
def execLdVxK (x : Reg) (s : State) : Host.Outcome State Fault Refusal :=
  .next (s.awaitKey x)

/-- SKP Vx (R216): skip if key Vx is down. With KEY_SKIP_IMPLEMENTED false its word is an unknown opcode and the
Keypad is not asked (R219). -/
def execSkp (x : Reg) (s : State) : Host.Outcome State Fault Refusal :=
  if s.params.keySkip then .next (s.takeKeyDown.skipIf (s.nextKeyDown (s.reg x)))
  else .next (s.raise (.unknownOpcode (encode (.skp x))))

/-- SKNP Vx (R217): skip if key Vx is not down; with KEY_SKIP_IMPLEMENTED false as SKP (R219). -/
def execSknp (x : Reg) (s : State) : Host.Outcome State Fault Refusal :=
  if s.params.keySkip then .next (s.takeKeyDown.skipIf (!s.nextKeyDown (s.reg x)))
  else .next (s.raise (.unknownOpcode (encode (.sknp x))))

end Sys2Proof.Machine
end

