-- ==== Sys2Proof/Machine/Cycle.lean ====
section
/-! DEFINITION. One cycle of the loop (40_dispatch.md): dispatch of a word, the body of step(), its report, and the
loop agent's step by status. Machine/Step.lean only calls these. -/

namespace Sys2Proof.Machine

/-- Dispatch a fetched word: run its row's rule, or raise UnknownOpcode with no other change (R103, R104). -/
def dispatchWord (op : Word) (s : State) : Host.Outcome State Fault Refusal :=
  match decodeWord s.params.keySkip op with
  | .ok i => exec i s
  | .error _ => .next (s.raise (.unknownOpcode op))

/-- The body of `step()` once the tick has come: fetch at PC, then dispatch (R100, R107). -/
def cycle (s : State) : Host.Outcome State Fault Refusal := dispatchWord s.fetchWord s

/-- The loop agent's step while Running: a stop request seen at the boundary ends the run with nothing fetched;
else one cycle (R110, R114, R242). -/
def runningStep (s : State) : Host.Outcome State Fault Refusal :=
  if s.stopRequested then .next (s.raise .cancellation) else cycle s

/-- The loop agent's step. Between two instructions and while a key is awaited, what other agents did since the last
step comes first (R109, R218). A core whose render is under way looks at the Display again, with no boundary before it
(R247); a waiting core looks at the Keypad again, whatever the stop flag says (R110, R215); a halted core has no step
(R36, R244). -/
def loopStep (s : State) : Host.Outcome State Fault Refusal :=
  match s.status with
  | .running => if s.rendering then .next s.awaitDisplay else runningStep s.hostActs
  | .waitingForKey x => .next (s.hostActs.awaitKey x)
  | .halted _ => .refused .haltedCore

/-! ### What step() reports -/

/-- The result `step()` reports beside the opcode (R107); `blocked` is the model's own (notes/assumptions/27.md). -/
inductive StepResult where
  | ok
  | blocked
  | cancellation
  | error (o : RunOutcome)
  deriving DecidableEq, Repr

/-- The result a state stands for (R107, R114): `blocked` while the Keypad or the Display has not answered. -/
def State.stepResult (s : State) : StepResult :=
  match s.status with
  | .running => if s.rendering then .blocked else .ok
  | .waitingForKey _ => .blocked
  | .halted .cancellation => .cancellation
  | .halted o => .error o

/-- A call of `step()` up to its return or its next look at the Keypad or the Display: a new cycle, or the wait of the
cycle under way taken up again (R107). Other agents act in the tick wait before a cycle and before each look at the
Keypad, as they do for the loop (R218, R255); that their steps are taken together there, and that how many they are is
scripted or a free value, is the model's DESIGN CHOICE, safe (notes/assumptions/10.md). The call does not read the stop
flag, which belongs to `run()` (R108). On a halted core it has no meaning: DESIGN CHOICE, safe
(notes/assumptions/26.md). -/
def stepCall (s : State) : Host.Outcome State Fault Refusal :=
  match s.status with
  | .running => if s.rendering then .next s.awaitDisplay else cycle s.hostActs
  | .waitingForKey x => .next (s.hostActs.awaitKey x)
  | .halted _ => .refused .haltedCore

/-- What a call of `step()` returns, the opcode and the result: the only trace the core gives (R107, R254). While the
call waits for the Keypad or the Display it has not returned; the spec names no report for that, and `blocked`, one
for each look, is the model's DESIGN CHOICE, safe (notes/assumptions/27.md). -/
def stepReport (s : State) : Option (Word × StepResult) :=
  match stepCall s with
  | .next t => some (s.fetchWord, t.stepResult)
  | .fault _ => none
  | .refused _ => none

/-! ### Placing an instruction -/

/-- `s` with no stop request at the next boundary, scripted or set. -/
def State.withoutStop (s : State) : State :=
  { s with
    stopRequested := false
    host :=
      if s.nextAct.stop then
        { s.host with acts := { s.nextAct with stop := false } :: s.host.acts.tail }
      else s.host }

/-- `s` with the instruction of bits `w` stored at PC, big-endian (R58), bits at or above `nbits` zero, and the loop
running with no render under way and no stop request, so that the next step fetches and runs it. -/
def State.placeInstr (s : State) (nbits w : Nat) : State :=
  let op : Word := BitVec.ofNat Config.instrWidth (w % 2 ^ nbits)
  ((((s.writeMem s.pc.toNat (highByte op)).writeMem (s.pc.toNat + 1) (lowByte op)).setStatus
    .running).setRendering false).withoutStop

end Sys2Proof.Machine
end

