-- ==== Sys2Proof/Machine/Step.lean ====
section
/-! DEFINITION. The step of the machine, and the placing of one instruction where it is fetched next. -/

namespace Sys2Proof.Machine

/-- One step of the loop agent (R114). -/
def step (s : State) : Host.Outcome State Fault Refusal := loopStep s

/-- `s` with the instruction of bits `w` (numbered as spec/opcode_table.json numbers them) placed where the next
step fetches it. It stands for the loader (notes/assumptions/20.md). -/
def State.withFetchWord (s : State) (nbits w : Nat) : State := s.placeInstr nbits w

end Sys2Proof.Machine
end

