-- ==== Sys2Proof/Machine/Boot.lean ====
section
/-! DEFINITION. Construction and program load (70_reset_and_hazards.md), the host's calls before a run. -/

namespace Sys2Proof.Machine

/-- `load_font()`: copy FONT to FONT_BASE, once, at construction (R261). -/
def State.loadFont (s : State) : State :=
  forRange (fun k t => t.writeMem (Config.fontBase + k) (fontByte s.params k)) Config.fontBytes s

/-- `construct(FREQUENCY, FONT, capabilities, parameters)`: a frequency of zero or less is a ConfigurationError
and yields no core (R112, R240, R260). The frequency is read here and nowhere else (notes/assumptions/19.md). -/
def construct (frequency : Int) (p : Params) : Except RunOutcome State :=
  if frequency ≤ 0 then .error (.configurationError frequency) else .ok (State.initial p).loadFont

/-- Write bytes at rising addresses from `a` on. -/
def State.writeBytes : List Byte → Nat → State → State
  | [], _, s => s
  | b :: bs, a, s => State.writeBytes bs (a + 1) (s.writeMem a b)

/-- `load(bytes)`: `none` stands for bytes that could not be read. A program longer than MEM_SIZE - PROGRAM_BASE
fails with memory unchanged; else it is copied to PROGRAM_BASE and its length is returned (R239, R262). -/
def State.load (s : State) (bytes : Option (List Byte)) : Except RunOutcome (Nat × State) :=
  match bytes with
  | none => .error (.loadFailure .readError)
  | some bs =>
    if bs.length > s.params.memSize - Config.programBase then
      .error (.loadFailure (.outOfMemory bs.length))
    else .ok (bs.length, State.writeBytes bs Config.programBase s)

end Sys2Proof.Machine
end

