-- ==== Sys2Proof/Machine/Run.lean ====
section
/-! DEFINITION. `run()` (40_dispatch.md R108), cut off after a number of steps so that it is a total function. -/

namespace Sys2Proof.Machine

/-- How a bounded run stands: returned with its outcome and final state (R256), still under way, or stopped by the
model itself. The frames handed to the Display are in the state. -/
inductive RunResult where
  | returned (o : RunOutcome) (s : State)
  | underWay (s : State)
  | faulted (f : Fault)
  | refused (r : Refusal)
  deriving DecidableEq, Repr

/-- `run()` for at most `n` steps: it returns once the status is Halted (R108, R256). The spec gives no meaning to
calling it on a core already halted (R244, U19); that it returns the recorded outcome there at once, with the state as it
is, is the model's DESIGN CHOICE (notes/assumptions/26.md). -/
def runLoop : Nat → State → RunResult
  | 0, s =>
    match s.status with
    | .halted o => .returned o s
    | .running => .underWay s
    | .waitingForKey _ => .underWay s
  | n + 1, s =>
    match s.status with
    | .halted o => .returned o s
    | .running | .waitingForKey _ =>
      match step s with
      | .next t => runLoop n t
      | .fault f => .faulted f
      | .refused r => .refused r

end Sys2Proof.Machine
end

