-- ==== Sys2Proof/Safety.lean ====
section
/-! DEFINITION. The terms statements are written in: which states are sound, what a state keeps, which registers an
instruction may write, and what a sprite covers. -/

namespace Sys2Proof.Machine

/-! ### Sound states -/

/-- The invariant of a core: parameters that fit the block, memory in its canonical form, a stack of STACK_SIZE
slots whose slot 0 has never been written, and SP within it (R28). -/
structure Inv (s : State) : Prop where
  params : s.params.wf
  memory : Memory.wf s.params s.mem
  stackLength : s.stack.length = s.params.stackSize
  spInside : s.sp.toNat < s.params.stackSize
  slotZero : s.stack[0]? = some 0

/-- The loop still runs: it executes instructions or waits for a key (R36). -/
def Live (s : State) : Prop := ∀ o, s.status ≠ .halted o

/-- A core waiting for a key stands at the very LD Vx, K it waits in (R36, R215), and a core whose render is under way
is Running and stands at a CLS or a DRW (R192, R194, R195). -/
def WaitsAtItsInstruction (s : State) : Prop :=
  (∀ x, s.status = .waitingForKey x → decodeWord s.params.keySkip s.fetchWord = .ok (.ldVxK x)) ∧
    (s.rendering = true → s.status = .running ∧
      (decodeWord s.params.keySkip s.fetchWord = .ok .cls ∨
        ∃ x y n, decodeWord s.params.keySkip s.fetchWord = .ok (.drw x y n)))

/-! ### Frames: what a state keeps of an earlier one -/

/-- Every byte of memory reads as before. -/
def SameMemory (s t : State) : Prop := ∀ a, t.readMem a = s.readMem a

/-- Every general register not listed reads as before. -/
def SameRegsBut (written : List Reg) (s t : State) : Prop := ∀ r, r ∉ written → t.reg r = s.reg r

/-- SP and every stack slot are as before. -/
def SameStack (s t : State) : Prop := t.sp = s.sp ∧ t.stack = s.stack

/-- DT and ST are as before. -/
def SameTimers (s t : State) : Prop := t.dt = s.dt ∧ t.st = s.st

/-- The graphics buffer is as before, nothing was rendered, and a render under way is so as before. -/
def SameScreen (s t : State) : Prop := t.fb = s.fb ∧ t.frames = s.frames ∧ t.rendering = s.rendering

/-- The stop flag, the status and the construction parameters are as before. -/
def SameLoop (s t : State) : Prop :=
  t.stopRequested = s.stopRequested ∧ t.status = s.status ∧ t.params = s.params

/-- No host answer was taken. -/
def SameHost (s t : State) : Prop := t.host = s.host

/-- Everything but the listed general registers and PC is as before. -/
def KeepsAllBut (written : List Reg) (s t : State) : Prop :=
  SameMemory s t ∧ SameRegsBut written s t ∧ t.i = s.i ∧ SameStack s t ∧ SameTimers s t ∧ SameScreen s t ∧
    SameLoop s t ∧ SameHost s t

/-- The run has ended with this outcome and everything else, PC included, is as before. -/
def OnlyEndsTheRun (o : RunOutcome) (s t : State) : Prop :=
  t.status = .halted o ∧ t.pc = s.pc ∧ SameMemory s t ∧ SameRegsBut [] s t ∧ t.i = s.i ∧ SameStack s t ∧
    SameTimers s t ∧ SameScreen s t ∧ t.stopRequested = s.stopRequested ∧ t.params = s.params ∧ SameHost s t

/-- A frame was shown, and everything but the screen, the listed general registers, PC, the status and whether the
render is still under way is as before; one answer of the Display was taken. -/
def KeepsAllButScreen (written : List Reg) (s t : State) : Prop :=
  SameMemory s t ∧ SameRegsBut written s t ∧ t.i = s.i ∧ SameStack s t ∧ SameTimers s t ∧
    t.stopRequested = s.stopRequested ∧ t.params = s.params ∧ t.frames = t.fb :: s.frames ∧
    t.host = s.takeRender.host

/-- Everything but the listed general registers, PC and the status is as before; one answer of getKey was taken. -/
def KeepsAllButKeyWait (written : List Reg) (s t : State) : Prop :=
  SameMemory s t ∧ SameRegsBut written s t ∧ t.i = s.i ∧ SameStack s t ∧ SameTimers s t ∧ SameScreen s t ∧
    t.stopRequested = s.stopRequested ∧ t.params = s.params ∧ t.host = s.takePoll.host

/-! ### Encodings -/

/-- `w` is the word of `i`, and the decoder reads `i` from it wherever `i` is an instruction (R77, R82). -/
def EncodedAs (i : Instr) (w : Nat) : Prop :=
  (encode i).toNat = w ∧
    ∀ keySkip, WellFormed keySkip i = true → decodeWord keySkip (BitVec.ofNat 16 w) = .ok i

/-! ### What an instruction may write -/

/-- The general registers an instruction writes: its destination, and VF where it writes a flag (R21, R32). -/
def writtenRegs : Instr → List Reg
  | .ldByte x _ | .addByte x _ | .ldReg x _ | .orReg x _ | .andReg x _ | .xorReg x _ | .rnd x _ => [x]
  | .addReg x _ | .sub x _ | .shr x _ | .subn x _ | .shl x _ => [x, Reg.flag]
  | .drw _ _ _ => [Reg.flag]
  | .ldVxDt x | .ldVxK x => [x]
  | .loadRegs x => (List.finRange Config.numV).filter (fun r => r ≤ x)
  | .cls | .ret | .jp _ | .call _ | .seByte _ _ | .sneByte _ _ | .seReg _ _ | .sneReg _ _ | .ldI _ | .jpV0 _
  | .skp _ | .sknp _ | .ldDtVx _ | .ldStVx _ | .addI _ | .ldF _ | .ldB _ | .storeRegs _ => []

/-- The addresses, before reduction modulo MEM_SIZE, an instruction stores to in a state (R51, R176): the
effective addresses its meaning uses. -/
def storedAddrs (s : State) : Instr → List Nat
  | .ldB _ => (List.range 3).map s.dataAddr
  | .storeRegs x => (List.range (x.val + 1)).map s.dataAddr
  | .cls | .ret | .jp _ | .call _ | .seByte _ _ | .sneByte _ _ | .seReg _ _ | .ldByte _ _ | .addByte _ _
  | .ldReg _ _ | .orReg _ _ | .andReg _ _ | .xorReg _ _ | .addReg _ _ | .sub _ _ | .shr _ _ | .subn _ _
  | .shl _ _ | .sneReg _ _ | .ldI _ | .jpV0 _ | .rnd _ _ | .drw _ _ _ | .skp _ | .sknp _ | .ldVxDt _
  | .ldVxK _ | .ldDtVx _ | .ldStVx _ | .addI _ | .ldF _ | .loadRegs _ => []

/-- The instructions that set PC themselves (R105). -/
def setsPc : Instr → Bool
  | .jp _ | .call _ | .ret | .jpV0 _ => true
  | .cls | .seByte _ _ | .sneByte _ _ | .seReg _ _ | .ldByte _ _ | .addByte _ _ | .ldReg _ _ | .orReg _ _
  | .andReg _ _ | .xorReg _ _ | .addReg _ _ | .sub _ _ | .shr _ _ | .subn _ _ | .shl _ _ | .sneReg _ _
  | .ldI _ | .rnd _ _ | .drw _ _ _ | .skp _ | .sknp _ | .ldVxDt _ | .ldVxK _ | .ldDtVx _ | .ldStVx _
  | .addI _ | .ldF _ | .ldB _ | .storeRegs _ | .loadRegs _ => false

/-- The conditional skips (R105, R106). -/
def skips : Instr → Bool
  | .seByte _ _ | .sneByte _ _ | .seReg _ _ | .sneReg _ _ | .skp _ | .sknp _ => true
  | .cls | .ret | .jp _ | .call _ | .ldByte _ _ | .addByte _ _ | .ldReg _ _ | .orReg _ _ | .andReg _ _
  | .xorReg _ _ | .addReg _ _ | .sub _ _ | .shr _ _ | .subn _ _ | .shl _ _ | .ldI _ | .jpV0 _ | .rnd _ _
  | .drw _ _ _ | .ldVxDt _ | .ldVxK _ | .ldDtVx _ | .ldStVx _ | .addI _ | .ldF _ | .ldB _ | .storeRegs _
  | .loadRegs _ => false

/-! ### Sprites -/

/-- The first `n` rows of a sprite have a bit of 1 that falls on the cell `q` when drawn at `(xs, ys)`: bit 7 is
column 0 (R190, R191). -/
def covers (xs ys n : Nat) (rows : Nat → Byte) (q : Fin 2048) : Prop :=
  ∃ r, r < n ∧ ∃ c, c < 8 ∧ (rows r).getLsbD (7 - c) = true ∧ cell (xs + c) (ys + r) = q

end Sys2Proof.Machine
end

