-- ==== Sys2Proof/Certificates/Slice0/Obligations.lean ====
section
/-! DEFINITION. The statements for the provers. Each docstring names the rules of spec/ it formalises. Register
results are stated as arithmetic on natural numbers, in the spec's own terms and not the model's. -/

open Sys2Proof Sys2Proof.Machine

/-! ## Encoding -/

/-- Decoding the word of an instruction gives the instruction back, with every operand at every value
(30_encoding.md R72, R73, R77, R82). -/
def Obligations.DecodeReadsBackEveryEncoding : Prop :=
  ∀ (keySkip : Bool) (i : Instr), WellFormed keySkip i = true → decodeWord keySkip (encode i) = .ok i

/-- Encoding what was decoded from a word gives the word back, and what was decoded is well-formed: no bit of a
word is dropped (30_encoding.md R72, R73, R77, R82). -/
def Obligations.EncodeWritesBackEveryDecoding : Prop :=
  ∀ (keySkip : Bool) (op : Word) (i : Instr), decodeWord keySkip op = .ok i →
    encode i = op ∧ WellFormed keySkip i = true

/-- The bytes of an instruction, high byte first, decode to it from the front of any byte stream, and the rest of
the stream is left (20_memory.md R58; 30_encoding.md R70, R71). -/
def Obligations.ByteStreamReadsBackTheInstruction : Prop :=
  ∀ (keySkip : Bool) (i : Instr) (rest : List Byte), WellFormed keySkip i = true →
    decodeBytes keySkip (encodeBytes i ++ rest) = .ok (i, rest)

/-- The decoder follows the opcode map of R77: what it reads from a word belongs to a row the word matches, a word
that matches a row is read as that row's instruction (so no word matches two rows), and a word that matches no row
is an unknown opcode (30_encoding.md R76, R77, R80, R82). -/
def Obligations.DecoderFollowsTheOpcodeMap : Prop :=
  ∀ (keySkip : Bool) (op : Word),
    (∀ i, decodeWord keySkip op = .ok i →
      rowOf i ∈ opcodeMap keySkip ∧ op &&& (rowOf i).mask = (rowOf i).value) ∧
    (∀ row ∈ opcodeMap keySkip, op &&& row.mask = row.value →
      ∃ i, decodeWord keySkip op = .ok i ∧ rowOf i = row) ∧
    ((∀ row ∈ opcodeMap keySkip, op &&& row.mask ≠ row.value) →
      decodeWord keySkip op = .error (.unknownOpcode op))

/-- A few words written out from the spec decode to what they stand for (30_encoding.md R72, R77, R80). -/
def Obligations.WrittenWordsDecode : Prop :=
  decodeWord true 0x00E0#16 = .ok .cls ∧ decodeWord true 0x2100#16 = .ok (.call 0x100) ∧
    decodeWord true 0x3123#16 = .ok (.seByte 1 0x23) ∧ decodeWord true 0x8AB4#16 = .ok (.addReg 0xA 0xB) ∧
    decodeWord true 0xA216#16 = .ok (.ldI 0x216) ∧ decodeWord true 0xD115#16 = .ok (.drw 1 1 5) ∧
    decodeWord true 0xFA33#16 = .ok (.ldB 0xA) ∧ decodeWord true 0xE19E#16 = .ok (.skp 1) ∧
    decodeWord false 0xE19E#16 = .error (.unknownOpcode 0xE19E#16) ∧
    decodeWord true 0x0000#16 = .error (.unknownOpcode 0x0000#16)

/-! ## Memory and fetch -/

/-- Memories that read alike are equal data: the canonical form loses nothing and has one form for each content
(20_memory.md R50; the form is the model's, notes/assumptions/5.md). -/
def Obligations.EqualReadsMakeEqualMemories : Prop :=
  ∀ (p : Params) (m n : List Host.Cell), Memory.wf p m → Memory.wf p n →
    (∀ a, a < p.memSize → memGet p m a = memGet p n a) → m = n

/-- The opcode fetched is big-endian from the bytes at PC and PC + 1, each address modulo MEM_SIZE; so two PCs equal
modulo MEM_SIZE fetch the same word, odd or beyond memory, with no fault (10_state.md R25; 20_memory.md R58; 40_dispatch.md
R101). -/
def Obligations.FetchIsBigEndianModuloMemory : Prop :=
  ∀ (s : State),
    s.fetchWord.toNat = (s.readMem (s.pc.toNat % s.params.memSize)).toNat * 256 +
      (s.readMem ((s.pc.toNat + 1) % s.params.memSize)).toNat ∧
    ∀ (t : State), t.params = s.params → SameMemory s t →
      t.pc.toNat % s.params.memSize = s.pc.toNat % s.params.memSize → t.fetchWord = s.fetchWord

/-- A byte stored at an address is the high byte of the word fetched there and the low byte of the word fetched one
below, at once (20_memory.md R59, R65). -/
def Obligations.StoreIsSeenByTheNextFetch : Prop :=
  ∀ (s : State) (a : Nat) (b : Byte), 2 ≤ s.params.memSize →
    (s.pc.toNat % s.params.memSize = a % s.params.memSize →
      (s.writeMem a b).fetchWord.toNat / 256 = b.toNat ∧
        (s.writeMem a b).fetchWord.toNat % 256 = s.fetchWord.toNat % 256) ∧
    ((s.pc.toNat + 1) % s.params.memSize = a % s.params.memSize →
      (s.writeMem a b).fetchWord.toNat % 256 = b.toNat ∧
        (s.writeMem a b).fetchWord.toNat / 256 = s.fetchWord.toNat / 256)

/-! ## The loop -/

/-- A step runs the decoded instruction. While Running, with no render under way and no stop request at the boundary,
when the bytes at PC decode to an instruction, the step is that instruction on the state the boundary leaves, and the boundary changes
DT, ST and the host's script alone (40_dispatch.md R101 to R103, R114; 45_timers_keypad.md R218). That the agent's
steps come just before the fetch is the model's granularity (notes/assumptions/10.md). -/
def Obligations.StepRunsTheDecodedInstruction : Prop :=
  ∀ (s : State) (i : Instr), s.status = .running → s.rendering = false → s.hostActs.stopRequested = false →
    decodeWord s.params.keySkip (wordOfBytes (s.readMem s.pc.toNat) (s.readMem (s.pc.toNat + 1))) = .ok i →
    step s = exec i s.hostActs ∧
      s.hostActs = { s with dt := s.hostActs.dt, st := s.hostActs.st, host := s.takeAct.host }

/-- A word that matches no row of the opcode map ends the run with UnknownOpcode carrying the word, and nothing else
changes: PC keeps the word's address (40_dispatch.md R104; 60_exceptions.md R233). -/
def Obligations.UnknownOpcodeEndsTheRun : Prop :=
  ∀ (s : State), (∀ row ∈ opcodeMap s.params.keySkip, s.fetchWord &&& row.mask ≠ row.value) →
    (∃ t, dispatchWord s.fetchWord s = .next t ∧ OnlyEndsTheRun (.unknownOpcode s.fetchWord) s t) ∧
    (s.status = .running → s.rendering = false → s.hostActs.stopRequested = false →
      ∃ t, step s = .next t ∧ OnlyEndsTheRun (.unknownOpcode s.fetchWord) s.hostActs t)

/-- A stop request seen at the boundary, set before it or made by the host there, ends the run cleanly before anything
is fetched, whatever the next instruction would do (40_dispatch.md R109, R110; 60_exceptions.md R238, R242). What the
host does at the boundary is scripted (notes/assumptions/11.md). -/
def Obligations.StopRequestEndsTheRunAtTheBoundary : Prop :=
  (∀ (s : State), s.hostActs.stopRequested = (s.stopRequested || s.nextAct.stop)) ∧
  ∀ (s : State), s.status = .running → s.rendering = false → s.hostActs.stopRequested = true →
    ∃ t, step s = .next t ∧ OnlyEndsTheRun .cancellation s.hostActs t

/-- No step clears the stop flag once set, and no step changes a construction parameter (10_state.md R35; 00_scope.md R7:
"fixed at construction"). That the parameters stand in the state is the model's choice (notes/assumptions/3.md). -/
def Obligations.StepsKeepTheStopFlagAndTheParameters : Prop :=
  ∀ (s t : State), step s = .next t →
    (s.stopRequested = true → t.stopRequested = true) ∧ t.params = s.params

/-- A halted core has no step. That the model then refuses is the model's choice for the spec's "no meaning is given"
(notes/assumptions/2.md; 10_state.md section 11, 60_exceptions.md section 4). -/
def Obligations.HaltedCoreHasNoStep : Prop :=
  ∀ (s t : State) (o : RunOutcome), s.status = .halted o → step s = .refused .haltedCore ∧ step s ≠ .next t

/-- A core that waits for the host takes its wait up in every step, whatever the stop flag says. Waiting for a key, its
step is what LD Vx, K does. CLS and DRW wait while the Display has not answered: their render is under way, PC kept; each
step then goes on as they do after the call: on success PC + 2, on an error RenderFailure with PC kept, and with no
answer nothing changes, however often the core looks: stuck, not faulted, with no second frame and no boundary
(40_dispatch.md R110; 45_timers_keypad.md R215; 44_graphics.md R192; 60_exceptions.md R246, R247). That one step is one
look at the Keypad or the Display is the model's choice (notes/assumptions/8.md, 9.md). -/
def Obligations.WaitingCoreLooksAgain : Prop :=
  (∀ (s : State) (x : Reg), s.status = .waitingForKey x →
    step s = exec (.ldVxK x) s.hostActs ∧ ∃ t, step s = .next t) ∧
  (∀ (s : State) (i : Instr), (i = .cls ∨ ∃ x y n, i = .drw x y n) → s.nextRender = .pending →
    ∃ t, exec i s = .next t ∧ t.rendering = true ∧ t.pc = s.pc ∧ t.status = s.status ∧
      KeepsAllButScreen (writtenRegs i) s t) ∧
  ∀ (s : State), s.status = .running → s.rendering = true →
    (s.nextRender = .ok → step s = .next { s.takeRender with pc := s.pc + 2, rendering := false }) ∧
    (∀ e, s.nextRender = .error e →
      step s = .next { s.takeRender with status := .halted (.renderFailure e), rendering := false }) ∧
    (s.nextRender = .pending → step s = .next s.takeRender)

/-- The Display is handed the buffer as it stands, once, by a step that renders, and no frame is ever lost: the
sequence of frames is the observable output (44_graphics.md R192; 60_exceptions.md R256). The field `frames` is the
model's (notes/assumptions/16.md). -/
def Obligations.FramesAreTheRenderedBuffers : Prop :=
  ∀ (s t : State), step s = .next t →
    (t.frames = s.frames ∧ t.fb = s.fb) ∨ t.frames = t.fb :: s.frames

/-! ## Invariants -/

/-- A core just constructed with fitting parameters meets the invariant, and so does the core after reset
(10_state.md R28, R37). The range of the parameters and the form of memory are the model's (notes/assumptions/4.md,
5.md). -/
def Obligations.ResetMeetsTheInvariant : Prop :=
  (∀ (p : Params), p.wf → Inv (State.initial p)) ∧ Inv State.reset

/-- Every step keeps the invariant: parameters that fit, memory in its canonical form, STACK_SIZE slots, slot 0 never
written, and SP within 0 to STACK_SIZE - 1 (10_state.md R28, R34). -/
def Obligations.EveryStepKeepsTheInvariant : Prop :=
  ∀ (s t : State), Inv s → step s = .next t → Inv t

/-- Every step keeps it that a core waiting for a key stands at its own LD Vx, K, and a core whose render is under way
is Running and stands at its own CLS or DRW (10_state.md R36; 45_timers_keypad.md R215; 44_graphics.md R192, R194,
R195). -/
def Obligations.WaitingCoreStandsAtItsInstruction : Prop :=
  WaitsAtItsInstruction State.reset ∧
    ∀ (s t : State), WaitsAtItsInstruction s → step s = .next t → WaitsAtItsInstruction t

/-- From every state that meets the invariant the loop can always step until it halts: nothing the machine does is a
fault or a refusal (40_dispatch.md R103: dispatch is total; R108). -/
def Obligations.SoundCoreAlwaysSteps : Prop :=
  ∀ (s : State), Inv s → Live s → ∃ t, step s = .next t

/-- A run takes the machine's own steps, one after the other, until the status is Halted, and then returns the outcome
recorded; so a run of a sound core, however long, has either returned, with the outcome its status records, or is still
under way (40_dispatch.md R108; 60_exceptions.md R256). The cut-off after a number of steps is the model's, and so is it
that on a core already halted the run returns the recorded outcome at once: R244 gives that call no meaning
(notes/assumptions/26.md). -/
def Obligations.RunReturnsHaltedOrGoesOn : Prop :=
  (∀ (s : State), Live s → runLoop 0 s = .underWay s) ∧
  (∀ (n : Nat) (s t : State), Live s → step s = .next t → runLoop (n + 1) s = runLoop n t) ∧
  (∀ (n : Nat) (s : State) (o : RunOutcome), s.status = .halted o → runLoop n s = .returned o s) ∧
  ∀ (n : Nat) (s : State), Inv s →
    (∃ o t, runLoop n s = .returned o t ∧ t.status = .halted o ∧ Inv t) ∨
    (∃ t, runLoop n s = .underWay t ∧ Live t ∧ Inv t)

/-! ## Control flow -/

/-- RET: with SP = 0 it raises StackUnderflow and nothing else changes; else PC is the slot at SP plus 2, SP is one
less, and the slot keeps its value (41_control_flow.md R121). -/
def Obligations.RetPopsOrUnderflows : Prop :=
  EncodedAs .ret 0x00EE ∧
  ∀ (s : State),
    (s.sp = 0 → ∃ t, exec .ret s = .next t ∧ OnlyEndsTheRun (.stackUnderflow s.pc) s t) ∧
    ∀ (w : Word), s.sp ≠ 0 → s.stack[s.sp.toNat]? = some w →
      ∃ t, exec .ret s = .next t ∧ t.pc.toNat = (w.toNat + 2) % 65536 ∧ t.sp.toNat = s.sp.toNat - 1 ∧
        t.stack = s.stack ∧ SameMemory s t ∧ SameRegsBut [] s t ∧ t.i = s.i ∧ SameTimers s t ∧
        SameScreen s t ∧ SameLoop s t ∧ SameHost s t

/-- CALL: with no slot left it raises StackOverflow and nothing else changes; else SP is one more, the slot at the
new SP holds the CALL's own address, every other slot is as before, and PC is the target (41_control_flow.md R122). -/
def Obligations.CallPushesOrOverflows : Prop :=
  ∀ (s : State) (nnn : Addr12),
    EncodedAs (.call nnn) (0x2000 + nnn.toNat) ∧
    (s.sp.toNat + 1 ≥ s.params.stackSize →
      ∃ t, exec (.call nnn) s = .next t ∧ OnlyEndsTheRun (.stackOverflow s.pc) s t) ∧
    (s.params.wf → s.stack.length = s.params.stackSize → s.sp.toNat + 1 < s.params.stackSize →
      ∃ t, exec (.call nnn) s = .next t ∧ t.sp.toNat = s.sp.toNat + 1 ∧
        t.stack[s.sp.toNat + 1]? = some s.pc ∧ (∀ j, j ≠ s.sp.toNat + 1 → t.stack[j]? = s.stack[j]?) ∧
        t.pc.toNat = nnn.toNat ∧ SameMemory s t ∧ SameRegsBut [] s t ∧ t.i = s.i ∧ SameTimers s t ∧
        SameScreen s t ∧ SameLoop s t ∧ SameHost s t)

/-- A RET right after a CALL resumes after the CALL: PC is the CALL's address plus 2, SP is what it was, and only the
slot the CALL wrote differs (10_state.md R27, R29; 41_control_flow.md R121, R122). -/
def Obligations.RetAfterCallResumesAfterTheCall : Prop :=
  ∀ (s : State) (nnn : Addr12), Inv s → s.sp.toNat + 1 < s.params.stackSize →
    ∃ t u, exec (.call nnn) s = .next t ∧ exec .ret t = .next u ∧ u.pc = s.pc + 2 ∧ u.sp = s.sp ∧
      u = { s with pc := s.pc + 2, stack := s.stack.set (s.sp.toNat + 1) s.pc }

/-- JP addr sets PC to the target; JP V0, addr sets it to the target plus V0, with no wrap and no alignment or range
check (41_control_flow.md R120, R123, R128). -/
def Obligations.JumpsSetThePc : Prop :=
  ∀ (s : State) (nnn : Addr12),
    EncodedAs (.jp nnn) (0x1000 + nnn.toNat) ∧ EncodedAs (.jpV0 nnn) (0xB000 + nnn.toNat) ∧
    (∃ t, exec (.jp nnn) s = .next t ∧ t.pc.toNat = nnn.toNat ∧ KeepsAllBut [] s t) ∧
    (∃ t, exec (.jpV0 nnn) s = .next t ∧ t.pc.toNat = nnn.toNat + (s.reg 0).toNat ∧ KeepsAllBut [] s t)

/-- SE and SNE with an immediate: PC + 4 when the condition holds and PC + 2 when not, and nothing else changes
(41_control_flow.md R124, R125; 40_dispatch.md R106). -/
def Obligations.ImmediateSkipsCompareAndSkip : Prop :=
  ∀ (s : State) (x : Reg) (kk : Byte),
    EncodedAs (.seByte x kk) (0x3000 + x.val * 0x100 + kk.toNat) ∧
    EncodedAs (.sneByte x kk) (0x4000 + x.val * 0x100 + kk.toNat) ∧
    (∃ t, exec (.seByte x kk) s = .next t ∧ t.pc = (if s.reg x = kk then s.pc + 4 else s.pc + 2) ∧
      KeepsAllBut [] s t) ∧
    (∃ t, exec (.sneByte x kk) s = .next t ∧ t.pc = (if s.reg x = kk then s.pc + 2 else s.pc + 4) ∧
      KeepsAllBut [] s t)

/-- SE and SNE with two registers (41_control_flow.md R126, R127; 40_dispatch.md R106). -/
def Obligations.RegisterSkipsCompareAndSkip : Prop :=
  ∀ (s : State) (x y : Reg),
    EncodedAs (.seReg x y) (0x5000 + x.val * 0x100 + y.val * 0x10) ∧
    EncodedAs (.sneReg x y) (0x9000 + x.val * 0x100 + y.val * 0x10) ∧
    (∃ t, exec (.seReg x y) s = .next t ∧ t.pc = (if s.reg x = s.reg y then s.pc + 4 else s.pc + 2) ∧
      KeepsAllBut [] s t) ∧
    (∃ t, exec (.sneReg x y) s = .next t ∧ t.pc = (if s.reg x = s.reg y then s.pc + 2 else s.pc + 4) ∧
      KeepsAllBut [] s t)

/-! ## Register loads and arithmetic -/

/-- LD Vx, byte and LD Vx, Vy (42_alu.md R141, R143). -/
def Obligations.LoadsSetTheirRegister : Prop :=
  ∀ (s : State) (x y : Reg) (kk : Byte),
    EncodedAs (.ldByte x kk) (0x6000 + x.val * 0x100 + kk.toNat) ∧
    EncodedAs (.ldReg x y) (0x8000 + x.val * 0x100 + y.val * 0x10) ∧
    (∃ t, exec (.ldByte x kk) s = .next t ∧ t.reg x = kk ∧ t.pc = s.pc + 2 ∧ KeepsAllBut [x] s t) ∧
    (∃ t, exec (.ldReg x y) s = .next t ∧ t.reg x = s.reg y ∧ t.pc = s.pc + 2 ∧ KeepsAllBut [x] s t)

/-- ADD Vx, byte: the sum modulo 256, and VF is not written unless it is the destination (42_alu.md R142). -/
def Obligations.AddImmediateLeavesTheFlag : Prop :=
  ∀ (s : State) (x : Reg) (kk : Byte),
    EncodedAs (.addByte x kk) (0x7000 + x.val * 0x100 + kk.toNat) ∧
    ∃ t, exec (.addByte x kk) s = .next t ∧ (t.reg x).toNat = ((s.reg x).toNat + kk.toNat) % 256 ∧
      t.pc = s.pc + 2 ∧ KeepsAllBut [x] s t

/-- OR, AND and XOR, bit by bit; VF is not written unless it is the destination (42_alu.md R144 to R146). -/
def Obligations.LogicWorksBitByBit : Prop :=
  ∀ (s : State) (x y : Reg),
    EncodedAs (.orReg x y) (0x8000 + x.val * 0x100 + y.val * 0x10 + 1) ∧
    EncodedAs (.andReg x y) (0x8000 + x.val * 0x100 + y.val * 0x10 + 2) ∧
    EncodedAs (.xorReg x y) (0x8000 + x.val * 0x100 + y.val * 0x10 + 3) ∧
    (∃ t, exec (.orReg x y) s = .next t ∧ t.pc = s.pc + 2 ∧ KeepsAllBut [x] s t ∧
      ∀ k, (t.reg x).getLsbD k = ((s.reg x).getLsbD k || (s.reg y).getLsbD k)) ∧
    (∃ t, exec (.andReg x y) s = .next t ∧ t.pc = s.pc + 2 ∧ KeepsAllBut [x] s t ∧
      ∀ k, (t.reg x).getLsbD k = ((s.reg x).getLsbD k && (s.reg y).getLsbD k)) ∧
    (∃ t, exec (.xorReg x y) s = .next t ∧ t.pc = s.pc + 2 ∧ KeepsAllBut [x] s t ∧
      ∀ k, (t.reg x).getLsbD k = ((s.reg x).getLsbD k ^^ (s.reg y).getLsbD k))

/-- ADD Vx, Vy: the sum modulo 256, and VF = 1 exactly when the 9-bit sum exceeds 255; with x = F the flag is what VF
holds (42_alu.md R140, R147, R154). -/
def Obligations.AddSetsTheCarry : Prop :=
  ∀ (s : State) (x y : Reg),
    EncodedAs (.addReg x y) (0x8000 + x.val * 0x100 + y.val * 0x10 + 4) ∧
    ∃ t, exec (.addReg x y) s = .next t ∧
      (x ≠ Reg.flag → (t.reg x).toNat = ((s.reg x).toNat + (s.reg y).toNat) % 256) ∧
      (t.reg Reg.flag).toNat = (if (s.reg x).toNat + (s.reg y).toNat > 255 then 1 else 0) ∧
      t.pc = s.pc + 2 ∧ KeepsAllBut [x, Reg.flag] s t

/-- SUB and SUBN: the difference modulo 256, and VF = 1 exactly when the minuend is strictly greater; with x = F the
flag is what VF holds (42_alu.md R140, R148, R150, R154). -/
def Obligations.SubtractionsSetTheStrictNotBorrow : Prop :=
  ∀ (s : State) (x y : Reg),
    EncodedAs (.sub x y) (0x8000 + x.val * 0x100 + y.val * 0x10 + 5) ∧
    EncodedAs (.subn x y) (0x8000 + x.val * 0x100 + y.val * 0x10 + 7) ∧
    (∃ t, exec (.sub x y) s = .next t ∧
      (x ≠ Reg.flag → (t.reg x).toNat = ((s.reg x).toNat + 256 - (s.reg y).toNat) % 256) ∧
      (t.reg Reg.flag).toNat = (if (s.reg x).toNat > (s.reg y).toNat then 1 else 0) ∧
      t.pc = s.pc + 2 ∧ KeepsAllBut [x, Reg.flag] s t) ∧
    (∃ t, exec (.subn x y) s = .next t ∧
      (x ≠ Reg.flag → (t.reg x).toNat = ((s.reg y).toNat + 256 - (s.reg x).toNat) % 256) ∧
      (t.reg Reg.flag).toNat = (if (s.reg y).toNat > (s.reg x).toNat then 1 else 0) ∧
      t.pc = s.pc + 2 ∧ KeepsAllBut [x, Reg.flag] s t)

/-- SHR and SHL shift Vx by one and put the bit shifted out in VF, whatever y is; with x = F the flag is what VF holds
(42_alu.md R140, R149, R151, R154; 30_encoding.md R78). -/
def Obligations.ShiftsSetTheBitShiftedOut : Prop :=
  ∀ (s : State) (x y : Reg),
    EncodedAs (.shr x y) (0x8000 + x.val * 0x100 + y.val * 0x10 + 6) ∧
    EncodedAs (.shl x y) (0x8000 + x.val * 0x100 + y.val * 0x10 + 0xE) ∧
    (∃ t, exec (.shr x y) s = .next t ∧ (x ≠ Reg.flag → (t.reg x).toNat = (s.reg x).toNat / 2) ∧
      (t.reg Reg.flag).toNat = (s.reg x).toNat % 2 ∧ t.pc = s.pc + 2 ∧ KeepsAllBut [x, Reg.flag] s t) ∧
    (∃ t, exec (.shl x y) s = .next t ∧ (x ≠ Reg.flag → (t.reg x).toNat = (s.reg x).toNat * 2 % 256) ∧
      (t.reg Reg.flag).toNat = (s.reg x).toNat / 128 ∧ t.pc = s.pc + 2 ∧ KeepsAllBut [x, Reg.flag] s t)

/-- RND Vx, byte: the random byte AND kk, and one random byte is used up (42_alu.md R152). The byte is scripted or a free
value (notes/assumptions/6.md). -/
def Obligations.RandomByteIsMaskedByTheImmediate : Prop :=
  ∀ (s : State) (x : Reg) (kk : Byte),
    EncodedAs (.rnd x kk) (0xC000 + x.val * 0x100 + kk.toNat) ∧
    ∃ t, exec (.rnd x kk) s = .next t ∧
      (∀ k, (t.reg x).getLsbD k = (s.nextByte.getLsbD k && kk.getLsbD k)) ∧ t.pc = s.pc + 2 ∧
      SameMemory s t ∧ SameRegsBut [x] s t ∧ t.i = s.i ∧ SameStack s t ∧ SameTimers s t ∧ SameScreen s t ∧
      SameLoop s t ∧ t.host = s.takeByte.host

/-- Every answer the host may give is admitted at every call, from every state: any random byte into any register;
both answers of keyDown, for SKP and for SKNP; of the Display, for CLS and for DRW, success, any error, and none yet;
of getKey any key, a cancellation, any error, and none yet (42_alu.md R153; 45_timers_keypad.md R210, R211, R215;
44_graphics.md R192, R194, R195; 60_exceptions.md R246). The scripts, and that a look may find no answer yet, are the
model's (notes/assumptions/8.md, 9.md, 15.md). -/
def Obligations.EveryHostAnswerIsAdmitted : Prop :=
  ∀ (s : State),
    (∀ (x : Reg) (b : Byte), ∃ h t, exec (.rnd x 0xFF) { s with host := h } = .next t ∧ t.reg x = b) ∧
    (s.params.keySkip = true → ∀ (x : Reg) (down : Bool),
      (∃ h t, exec (.skp x) { s with host := h } = .next t ∧ t.pc = (if down then s.pc + 4 else s.pc + 2)) ∧
      (∃ h t, exec (.sknp x) { s with host := h } = .next t ∧ t.pc = (if down then s.pc + 2 else s.pc + 4))) ∧
    (∀ i : Instr, (i = .cls ∨ ∃ x y n, i = .drw x y n) →
      (∃ h t, exec i { s with host := h } = .next t ∧ t.status = s.status ∧ t.pc = s.pc + 2 ∧
        t.rendering = false) ∧
      (∀ e, ∃ h t, exec i { s with host := h } = .next t ∧ t.status = .halted (.renderFailure e) ∧
        t.pc = s.pc) ∧
      (∃ h t, exec i { s with host := h } = .next t ∧ t.status = s.status ∧ t.pc = s.pc ∧
        t.rendering = true)) ∧
    (∀ x : Reg,
      (∀ k : Fin 16, ∃ h t, exec (.ldVxK x) { s with host := h } = .next t ∧ (t.reg x).toNat = k.val ∧
        t.status = .running ∧ t.pc = s.pc + 2) ∧
      (∃ h t, exec (.ldVxK x) { s with host := h } = .next t ∧ t.status = .halted .cancellation ∧
        t.pc = s.pc) ∧
      (∀ e, ∃ h t, exec (.ldVxK x) { s with host := h } = .next t ∧
        t.status = .halted (.keypadFailure (.backend e)) ∧ t.pc = s.pc) ∧
      (∃ h t, exec (.ldVxK x) { s with host := h } = .next t ∧ t.status = .waitingForKey x ∧ t.pc = s.pc))

/-! ## The address register and memory transfers -/

/-- LD I, addr; ADD I, Vx (modulo 2^16, VF not written); LD F, Vx (the byte times 5, not masked)
(43_index_memory.md R170 to R172). -/
def Obligations.AddressRegisterWrites : Prop :=
  ∀ (s : State) (x : Reg) (nnn : Addr12),
    EncodedAs (.ldI nnn) (0xA000 + nnn.toNat) ∧ EncodedAs (.addI x) (0xF01E + x.val * 0x100) ∧
    EncodedAs (.ldF x) (0xF029 + x.val * 0x100) ∧
    (∃ t, exec (.ldI nnn) s = .next t ∧ t.i.toNat = nnn.toNat ∧ t.pc = s.pc + 2 ∧
      SameMemory s t ∧ SameRegsBut [] s t ∧ SameStack s t ∧ SameTimers s t ∧ SameScreen s t ∧ SameLoop s t ∧
      SameHost s t) ∧
    (∃ t, exec (.addI x) s = .next t ∧ t.i.toNat = (s.i.toNat + (s.reg x).toNat) % 65536 ∧ t.pc = s.pc + 2 ∧
      SameMemory s t ∧ SameRegsBut [] s t ∧ SameStack s t ∧ SameTimers s t ∧ SameScreen s t ∧ SameLoop s t ∧
      SameHost s t) ∧
    (∃ t, exec (.ldF x) s = .next t ∧ t.i.toNat = (s.reg x).toNat * 5 ∧ t.pc = s.pc + 2 ∧
      SameMemory s t ∧ SameRegsBut [] s t ∧ SameStack s t ∧ SameTimers s t ∧ SameScreen s t ∧ SameLoop s t ∧
      SameHost s t)

/-- LD B, Vx stores the three decimal digits at I, I + 1, I + 2 (modulo MEM_SIZE), every other byte of memory reads
as before, and I is unchanged (43_index_memory.md R173, R176). -/
def Obligations.BcdStoresThreeDigits : Prop :=
  ∀ (s : State) (x : Reg), EncodedAs (.ldB x) (0xF033 + x.val * 0x100) ∧
    (s.params.wf →
      ∃ t, exec (.ldB x) s = .next t ∧
        (t.readMem s.i.toNat).toNat = (s.reg x).toNat / 100 ∧
        (t.readMem (s.i.toNat + 1)).toNat = (s.reg x).toNat / 10 % 10 ∧
        (t.readMem (s.i.toNat + 2)).toNat = (s.reg x).toNat % 10 ∧
        (∀ a, (∀ k, k < 3 → a % s.params.memSize ≠ s.dataAddr k % s.params.memSize) →
          t.readMem a = s.readMem a) ∧
        t.pc = s.pc + 2 ∧ SameRegsBut [] s t ∧ t.i = s.i ∧ SameStack s t ∧ SameTimers s t ∧ SameScreen s t ∧
        SameLoop s t ∧ SameHost s t)

/-- LD [I], Vx stores V0 to Vx inclusive at I on (modulo MEM_SIZE), every other byte of memory reads as before, and I
is unchanged (43_index_memory.md R174, R176). -/
def Obligations.BlockStoreWritesTheRegisters : Prop :=
  ∀ (s : State) (x : Reg), EncodedAs (.storeRegs x) (0xF055 + x.val * 0x100) ∧
    (s.params.wf →
      ∃ t, exec (.storeRegs x) s = .next t ∧
        (∀ k : Reg, k ≤ x → t.readMem (s.i.toNat + k.val) = s.reg k) ∧
        (∀ a, (∀ k, k ≤ x.val → a % s.params.memSize ≠ s.dataAddr k % s.params.memSize) →
          t.readMem a = s.readMem a) ∧
        t.pc = s.pc + 2 ∧ SameRegsBut [] s t ∧ t.i = s.i ∧ SameStack s t ∧ SameTimers s t ∧ SameScreen s t ∧
        SameLoop s t ∧ SameHost s t)

/-- LD Vx, [I] loads V0 to Vx inclusive from I on (modulo MEM_SIZE), and the registers above x and I are unchanged
(43_index_memory.md R175, R176). -/
def Obligations.BlockLoadReadsTheRegisters : Prop :=
  ∀ (s : State) (x : Reg),
    EncodedAs (.loadRegs x) (0xF065 + x.val * 0x100) ∧
    ∃ t, exec (.loadRegs x) s = .next t ∧
      (∀ k : Reg, t.reg k = if k ≤ x then s.readMem (s.i.toNat + k.val) else s.reg k) ∧
      t.pc = s.pc + 2 ∧ SameMemory s t ∧ t.i = s.i ∧ SameStack s t ∧ SameTimers s t ∧ SameScreen s t ∧
      SameLoop s t ∧ SameHost s t

/-- Storing V0 to Vx and, whatever happened to the registers between, loading them back gives the values stored,
as long as I and memory are kept (43_index_memory.md R175). -/
def Obligations.BlockTransferRoundTrip : Prop :=
  ∀ (s t u : State) (x : Reg), s.params.wf → exec (.storeRegs x) s = .next t → u.i = t.i →
    u.params = t.params → SameMemory t u →
    ∃ w, exec (.loadRegs x) u = .next w ∧ (∀ k : Reg, k ≤ x → w.reg k = s.reg k) ∧
      ∀ k : Reg, x < k → w.reg k = u.reg k

/-! ## Graphics -/

/-- CLS turns every cell off and shows the frame, whatever the Display answers or if it has not answered; on success it
advances, and a rendering error ends the run with RenderFailure, the buffer already cleared and PC kept
(44_graphics.md sections 1 and 2). That a step may end while the Display has not answered, one look taken, and the
fields `rendering` and `frames` are the model's choice (notes/assumptions/9.md, 16.md). -/
def Obligations.ClearScreenClearsAndRenders : Prop :=
  EncodedAs .cls 0x00E0 ∧
  ∀ (s : State), ∃ t, exec .cls s = .next t ∧ (∀ q, t.fb.getLsbD q = false) ∧
    (s.nextRender = .ok → t.pc = s.pc + 2 ∧ t.status = s.status ∧ t.rendering = false) ∧
    (∀ e, s.nextRender = .error e →
      t.pc = s.pc ∧ t.status = .halted (.renderFailure e) ∧ t.rendering = false) ∧
    KeepsAllButScreen [] s t

/-- DRW flips exactly the cells that the n rows at I cover when drawn at (Vx, Vy), wrapping on both axes; VF = 1
exactly when a covered cell was lit before; then the frame is shown, and on success PC advances, or a rendering error
ends the run with `fb` and VF written and PC kept. The origin is read before VF is written (44_graphics.md sections 1
to 3). That a step may end while the Display has not answered, one look taken, and the fields `rendering` and `frames`
are the model's choice (notes/assumptions/9.md, 16.md). -/
def Obligations.DrawFlipsTheCoveredCells : Prop :=
  ∀ (s : State) (x y : Reg) (n : Nibble),
    EncodedAs (.drw x y n) (0xD000 + x.val * 0x100 + y.val * 0x10 + n.toNat) ∧
    ∃ t, exec (.drw x y n) s = .next t ∧
      (∀ q : Fin 2048, t.fb.getLsbD q = true ↔
        ((s.fb.getLsbD q = true ∧
            ¬ covers (s.reg x).toNat (s.reg y).toNat n.toNat (fun r => s.readMem (s.i.toNat + r)) q) ∨
          (s.fb.getLsbD q = false ∧
            covers (s.reg x).toNat (s.reg y).toNat n.toNat (fun r => s.readMem (s.i.toNat + r)) q))) ∧
      ((t.reg Reg.flag = 1 ∧
          ∃ q : Fin 2048,
            covers (s.reg x).toNat (s.reg y).toNat n.toNat (fun r => s.readMem (s.i.toNat + r)) q ∧
            s.fb.getLsbD q = true) ∨
        (t.reg Reg.flag = 0 ∧
          ∀ q : Fin 2048,
            covers (s.reg x).toNat (s.reg y).toNat n.toNat (fun r => s.readMem (s.i.toNat + r)) q →
            s.fb.getLsbD q = false)) ∧
      (s.nextRender = .ok → t.pc = s.pc + 2 ∧ t.status = s.status ∧ t.rendering = false) ∧
      (∀ e, s.nextRender = .error e →
        t.pc = s.pc ∧ t.status = .halted (.renderFailure e) ∧ t.rendering = false) ∧
      KeepsAllButScreen [Reg.flag] s t

/-- A DRW that the Display accepts completes: PC + 2 and the status kept. A draw of no rows (n = 0) changes no cell
and sets VF to 0 (44_graphics.md section 2). The fields `rendering` and `frames` are the model's choice
(notes/assumptions/9.md, 16.md). -/
def Obligations.DrawCompletesWhenTheDisplayAccepts : Prop :=
  ∀ (s : State) (x y : Reg) (n : Nibble), s.nextRender = .ok →
    ∃ t, exec (.drw x y n) s = .next t ∧ t.pc = s.pc + 2 ∧ t.status = s.status ∧ t.rendering = false ∧
      KeepsAllButScreen [Reg.flag] s t ∧ (n = 0 → t.fb = s.fb ∧ t.reg Reg.flag = 0)

/-- Drawing the same sprite twice at the same origin restores every cell, and the second draw's VF is 1 exactly when
some covered cell was off before the first draw (44_graphics.md R191). The last inference of R197, that it is 1 for every
sprite with a bit of 1, fails where every covered cell was lit: the statement follows R191 (notes/assumptions/24.md). -/
def Obligations.DrawingTwiceRestoresTheScreen : Prop :=
  ∀ (s t u : State) (x y : Reg) (n : Nibble), exec (.drw x y n) s = .next t → t.reg x = s.reg x →
    t.reg y = s.reg y → exec (.drw x y n) t = .next u →
    u.fb = s.fb ∧
      (u.reg Reg.flag = 1 ↔
        ∃ q : Fin 2048,
          covers (s.reg x).toNat (s.reg y).toNat n.toNat (fun r => s.readMem (s.i.toNat + r)) q ∧
          s.fb.getLsbD q = false)

/-- Origins equal modulo the screen's width and height draw the same buffer and set the same VF
(44_graphics.md R190; R198 is the spec's own inference from it). -/
def Obligations.DrawOriginsWrapAround : Prop :=
  ∀ (s t s' t' : State) (x y : Reg) (n : Nibble), s'.i = s.i → s'.fb = s.fb → SameMemory s s' →
    (s'.reg x).toNat % 64 = (s.reg x).toNat % 64 → (s'.reg y).toNat % 32 = (s.reg y).toNat % 32 →
    exec (.drw x y n) s = .next t → exec (.drw x y n) s' = .next t' →
    t'.fb = t.fb ∧ t'.reg Reg.flag = t.reg Reg.flag

/-! ## Timers and keypad -/

/-- LD Vx, DT; LD DT, Vx; LD ST, Vx (45_timers_keypad.md R212 to R214). -/
def Obligations.TimerRegistersAreReadAndWritten : Prop :=
  ∀ (s : State) (x : Reg),
    EncodedAs (.ldVxDt x) (0xF007 + x.val * 0x100) ∧ EncodedAs (.ldDtVx x) (0xF015 + x.val * 0x100) ∧
    EncodedAs (.ldStVx x) (0xF018 + x.val * 0x100) ∧
    (∃ t, exec (.ldVxDt x) s = .next t ∧ t.reg x = s.dt ∧ t.pc = s.pc + 2 ∧ KeepsAllBut [x] s t) ∧
    (∃ t, exec (.ldDtVx x) s = .next t ∧ t.dt = s.reg x ∧ t.st = s.st ∧ t.pc = s.pc + 2 ∧
      SameMemory s t ∧ SameRegsBut [] s t ∧ t.i = s.i ∧ SameStack s t ∧ SameScreen s t ∧ SameLoop s t ∧
      SameHost s t) ∧
    (∃ t, exec (.ldStVx x) s = .next t ∧ t.st = s.reg x ∧ t.dt = s.dt ∧ t.pc = s.pc + 2 ∧
      SameMemory s t ∧ SameRegsBut [] s t ∧ t.i = s.i ∧ SameStack s t ∧ SameScreen s t ∧ SameLoop s t ∧
      SameHost s t)

/-- LD Vx, K with a key 0 to 15 at hand completes: Vx holds the key's code, the core runs on, PC + 2
(45_timers_keypad.md section 3; that the answer at hand completes it within its own step is the model's choice,
notes/assumptions/8.md). -/
def Obligations.KeyWaitStoresTheKey : Prop :=
  ∀ (s : State) (x : Reg) (k : Nat), s.nextPoll = .key k → k < 16 →
    EncodedAs (.ldVxK x) (0xF00A + x.val * 0x100) ∧
    ∃ t, exec (.ldVxK x) s = .next t ∧ (t.reg x).toNat = k ∧ t.pc = s.pc + 2 ∧ t.status = .running ∧
      KeepsAllButKeyWait [x] s t

/-- LD Vx, K without a key: with no answer yet the core waits; a cancellation ends the run cleanly; an error, or a
code above 15, ends it with KeypadFailure. Vx and PC are unchanged in each (45_timers_keypad.md section 3;
60_exceptions.md R236, R238). The waiting step and the value recorded for a code above 15 are the model's
(notes/assumptions/8.md, 13.md). -/
def Obligations.KeyWaitWithoutAKey : Prop :=
  ∀ (s : State) (x : Reg),
    (s.nextPoll = .pending → ∃ t, exec (.ldVxK x) s = .next t ∧ t.status = .waitingForKey x ∧ t.pc = s.pc ∧
      KeepsAllButKeyWait [] s t) ∧
    (s.nextPoll = .cancel → ∃ t, exec (.ldVxK x) s = .next t ∧ t.status = .halted .cancellation ∧
      t.pc = s.pc ∧ KeepsAllButKeyWait [] s t) ∧
    (∀ e, s.nextPoll = .error e → ∃ t, exec (.ldVxK x) s = .next t ∧
      t.status = .halted (.keypadFailure (.backend e)) ∧ t.pc = s.pc ∧ KeepsAllButKeyWait [] s t) ∧
    (∀ k, s.nextPoll = .key k → 16 ≤ k → ∃ t, exec (.ldVxK x) s = .next t ∧
      t.status = .halted (.keypadFailure (.badKeyCode k)) ∧ t.pc = s.pc ∧ KeepsAllButKeyWait [] s t)

/-- SKP and SKNP skip on the Keypad's answer for the value of Vx, passed as it is (45_timers_keypad.md R216, R217). -/
def Obligations.KeySkipsAskTheKeypad : Prop :=
  ∀ (s : State) (x : Reg), s.params.keySkip = true →
    EncodedAs (.skp x) (0xE09E + x.val * 0x100) ∧ EncodedAs (.sknp x) (0xE0A1 + x.val * 0x100) ∧
    (∃ t, exec (.skp x) s = .next t ∧
      t.pc = (if s.nextKeyDown (s.reg x) = true then s.pc + 4 else s.pc + 2) ∧ SameMemory s t ∧
      SameRegsBut [] s t ∧ t.i = s.i ∧ SameStack s t ∧ SameTimers s t ∧ SameScreen s t ∧ SameLoop s t ∧
      t.host = s.takeKeyDown.host) ∧
    (∃ t, exec (.sknp x) s = .next t ∧
      t.pc = (if s.nextKeyDown (s.reg x) = true then s.pc + 2 else s.pc + 4) ∧ SameMemory s t ∧
      SameRegsBut [] s t ∧ t.i = s.i ∧ SameStack s t ∧ SameTimers s t ∧ SameScreen s t ∧ SameLoop s t ∧
      t.host = s.takeKeyDown.host)

/-- With KEY_SKIP_IMPLEMENTED false, Ex9E and ExA1 are unknown opcodes: the decoder rejects them, and dispatch ends
the run with the word, the Keypad not asked (30_encoding.md R82; 45_timers_keypad.md R219). -/
def Obligations.KeySkipsMayBeUnknownOpcodes : Prop :=
  ∀ (s : State) (op : Word), s.params.keySkip = false →
    (op &&& 0xF0FF#16 = 0xE09E#16 ∨ op &&& 0xF0FF#16 = 0xE0A1#16) →
    decodeWord false op = .error (.unknownOpcode op) ∧
      ∃ t, dispatchWord op s = .next t ∧ OnlyEndsTheRun (.unknownOpcode op) s t

/-- A boundary takes each timer down by the agent's number of single steps, each stopping at 0; under frozen it takes
none. In every state, a waiting core's too, it sets the stop flag if the host calls stop() there, uses up the host's
script for it, and changes nothing else (45_timers_keypad.md R218; 40_dispatch.md R109; 60_exceptions.md R246, R255).
The numbers are scripted or free values (notes/assumptions/10.md, 11.md). -/
def Obligations.TimerAgentCountsDownToZero : Prop :=
  (∀ b : Byte, (timerTick b).toNat = b.toNat - 1) ∧
  (∀ (s : State),
    s.hostActs = { s with
      dt := s.hostActs.dt, st := s.hostActs.st, stopRequested := s.stopRequested || s.nextAct.stop,
      host := s.takeAct.host }) ∧
  ∀ (s : State),
    (s.params.timerModel = .externalCountdown →
      s.hostActs.dt = timerTick^[s.nextAct.dtSteps] s.dt ∧
      s.hostActs.st = timerTick^[s.nextAct.stSteps] s.st) ∧
    (s.params.timerModel = .frozen → s.hostActs.dt = s.dt ∧ s.hostActs.st = s.st)

/-- A timer rises in a step only where the step runs LD DT, Vx (or LD ST, Vx), which then sets it to Vx
(45_timers_keypad.md R218). -/
def Obligations.TimersRiseOnlyByTheirInstructions : Prop :=
  ∀ (s t : State), step s = .next t →
    (t.dt.toNat > s.dt.toNat → s.status = .running ∧
      ∃ x, decodeWord s.params.keySkip s.fetchWord = .ok (.ldDtVx x) ∧ t.dt = s.reg x) ∧
    (t.st.toNat > s.st.toNat → s.status = .running ∧
      ∃ x, decodeWord s.params.keySkip s.fetchWord = .ok (.ldStVx x) ∧ t.st = s.reg x)

/-! ## Rules about every instruction -/

/-- An instruction writes only the general registers the rules name for it: its destination, and VF where it writes
a flag (10_state.md R21, R22, R32). -/
def Obligations.OnlyNamedRegistersAreWritten : Prop :=
  ∀ (i : Instr) (s t : State), exec i s = .next t → SameRegsBut (writtenRegs i) s t

/-- Only LD B and LD [I] write memory, and only the bytes at the addresses they store to (20_memory.md R51, R54). -/
def Obligations.OnlyStoredBytesChange : Prop :=
  ∀ (i : Instr) (s t : State), exec i s = .next t →
    ∀ a, (∀ b ∈ storedAddrs s i, a % s.params.memSize ≠ b % s.params.memSize) →
      t.readMem a = s.readMem a

/-- No instruction other than CALL and RET writes SP or the stack (10_state.md R29); none but CLS and DRW changes a
cell (R31) or renders; none but LD I, ADD I and LD F writes I, none but LD DT and LD ST the timers (R34); and none
touches the stop flag (R35). -/
def Obligations.SpecialStateHasItsOwnWriters : Prop :=
  ∀ (i : Instr) (s t : State), exec i s = .next t →
    (i ≠ .ret → (∀ nnn, i ≠ .call nnn) → SameStack s t) ∧
    (i ≠ .cls → (∀ x y n, i ≠ .drw x y n) → SameScreen s t) ∧
    ((∀ nnn, i ≠ .ldI nnn) → (∀ x, i ≠ .addI x) → (∀ x, i ≠ .ldF x) → t.i = s.i) ∧
    ((∀ x, i ≠ .ldDtVx x) → t.dt = s.dt) ∧ ((∀ x, i ≠ .ldStVx x) → t.st = s.st) ∧
    t.stopRequested = s.stopRequested ∧ t.params = s.params

/-- Every instruction run by a Running core ends in exactly one of: PC + 2; PC + 4, for a skip; a PC it sets itself,
for a jump, a call or a return; or a halt, which keeps its own address (40_dispatch.md R105, R106). Beside these ends
it may, in the model, be left waiting for the Keypad or the Display, with its own address kept: that a wait ends a step of
the model is the model's choice (notes/assumptions/8.md, 9.md). -/
def Obligations.NextPcFollowsTheRules : Prop :=
  ∀ (i : Instr) (s t : State), s.status = .running → s.rendering = false → exec i s = .next t →
    (t.status = .running ∧ t.rendering = false ∧
      (t.pc = s.pc + 2 ∨ (skips i = true ∧ t.pc = s.pc + 4) ∨ setsPc i = true)) ∨
    ((t.status ≠ .running ∨ t.rendering = true) ∧ t.pc = s.pc)

/-- Errors are precise: each outcome comes from its own instruction only, PC keeps that instruction's address, and
what it has written is the cleared buffer for CLS, the drawn buffer and VF for DRW, and nothing for the others
(60_exceptions.md R232, R242, R243). The last case, a key skip run where KEY_SKIP_IMPLEMENTED is false, is deduced from
R82 and R219 (notes/assumptions/17.md): in a step such a word raises at dispatch (R242), so no step comes to it. -/
def Obligations.ErrorsArePrecise : Prop :=
  ∀ (i : Instr) (s t : State) (o : RunOutcome), s.status = .running → exec i s = .next t →
    t.status = .halted o →
    ((∃ nnn, i = .call nnn) ∧ o = .stackOverflow s.pc ∧ t = { s with status := .halted o }) ∨
    (i = .ret ∧ o = .stackUnderflow s.pc ∧ t = { s with status := .halted o }) ∨
    ((∃ x, i = .ldVxK x) ∧ (o = .cancellation ∨ ∃ e, o = .keypadFailure e) ∧
      t = { s.takePoll with status := .halted o }) ∨
    (i = .cls ∧ (∃ e, o = .renderFailure e) ∧ t.fb = 0 ∧ t.pc = s.pc ∧ KeepsAllButScreen [] s t) ∨
    ((∃ x y n, i = .drw x y n ∧ t.fb = (s.drawn x y n).1 ∧ t.reg Reg.flag = flagByte (s.drawn x y n).2) ∧
      (∃ e, o = .renderFailure e) ∧ t.pc = s.pc ∧ KeepsAllButScreen [Reg.flag] s t) ∨
    (s.params.keySkip = false ∧ (∃ x, i = .skp x ∨ i = .sknp x) ∧ o = .unknownOpcode (encode i) ∧
      t = { s with status := .halted o })

/-! ## Construction, load, placing -/

/-- What construction leaves: the font at 0, zero elsewhere in memory, every register, the stack, the timers and the
buffer zero, PC at 0x200, no stop request, Running (10_state.md R37). The font's bytes are the spec's own general
knowledge (R33, D27; notes/assumptions/5.md). -/
def Obligations.ResetLeavesTheStatedValues : Prop :=
  (∀ a, a < 4096 → State.reset.readMem a = (fontLow ++ fontHigh).getD a 0) ∧
    (∀ r, State.reset.reg r = 0) ∧ State.reset.i = 0 ∧ State.reset.pc = 0x200 ∧ State.reset.sp = 0 ∧
    State.reset.stack.length = 16 ∧ (∀ w ∈ State.reset.stack, w = 0) ∧ State.reset.dt = 0 ∧
    State.reset.st = 0 ∧ (∀ q, State.reset.fb.getLsbD q = false) ∧ State.reset.stopRequested = false ∧
    State.reset.status = .running

/-- Construction with a frequency of zero or less is a ConfigurationError and yields no core (40_dispatch.md section 4;
60_exceptions.md section 1); with a positive one it yields the core just constructed, in which copying the font in
changes nothing since memory already reads so (70_reset_and_hazards.md section 1): for every FONT, memory then reads the
FONT given at addresses 0 to 79 and 0 from 80 on (R261; 10_state.md R37). That unlisted memory reads as after
construction, that the model's own fields start empty, and that the frequency is kept nowhere are the model's choices
(notes/assumptions/5.md, 15.md, 19.md). -/
def Obligations.ConstructionChecksTheFrequency : Prop :=
  ∀ (f : Int) (p : Params),
    (f ≤ 0 → construct f p = .error (.configurationError f)) ∧
    (p.wf → 0 < f → construct f p = .ok (State.initial p)) ∧
    (p.wf → (∀ (k : Nat) (h : k < 80), (State.initial p).readMem k = p.font[k]'h) ∧
      ∀ a, 80 ≤ a → a < p.memSize → (State.initial p).readMem a = 0)

/-- load copies a program that fits to 0x200 on, byte for byte, returns its length, and changes nothing else; one that
does not fit, or cannot be read, is a LoadFailure (70_reset_and_hazards.md R262). -/
def Obligations.LoadCopiesAProgramThatFits : Prop :=
  ∀ (s : State), s.params.wf →
    s.load none = .error (.loadFailure .readError) ∧
    ∀ (bs : List Byte),
      (bs.length > s.params.memSize - 0x200 →
        s.load (some bs) = .error (.loadFailure (.outOfMemory bs.length))) ∧
      (bs.length ≤ s.params.memSize - 0x200 →
        ∃ t, s.load (some bs) = .ok (bs.length, t) ∧
          (∀ (k : Nat) (hk : k < bs.length), t.readMem (0x200 + k) = bs[k]) ∧
          (∀ c, c < s.params.memSize → (c < 0x200 ∨ 0x200 + bs.length ≤ c) → t.readMem c = s.readMem c) ∧
          t = { s with mem := t.mem })

/-- A word placed with withFetchWord is what the very next step decodes and runs, on a state that differs from the
placed one in DT, ST and the host's script alone (40_dispatch.md R101, R114; the placing is the model's,
notes/assumptions/20.md). -/
def Obligations.PlacedInstructionRunsNext : Prop :=
  ∀ (s : State) (w : Nat) (i : Instr), s.params.wf → w < 65536 →
    decodeWord s.params.keySkip (BitVec.ofNat 16 w) = .ok i →
    ∃ u, step (s.withFetchWord 16 w) = exec i u ∧ u.fetchWord = BitVec.ofNat 16 w ∧ u.pc = s.pc ∧
      u.status = .running ∧ u.rendering = false ∧ SameRegsBut [] s u ∧ u.i = s.i ∧ SameStack s u ∧ u.fb = s.fb ∧
      u.params = s.params ∧
      ∀ a, a % s.params.memSize ≠ s.pc.toNat % s.params.memSize →
        a % s.params.memSize ≠ (s.pc.toNat + 1) % s.params.memSize → u.readMem a = s.readMem a
end

