-- ==== Sys2Proof/Laws/Decode.lean ====
section
/-! SUPPORT. The fields of a word and the three encoding formats, as arithmetic on natural numbers; each field of an
encoded word reads back what was put there, and a word is made of its fields. -/

namespace Sys2Proof

/-- A register number as arithmetic sees it. -/
theorem Reg.lt_sixteen (x : Reg) : x.val < 16 := x.isLt

/-! ### Fields as arithmetic -/

theorem opFamily_toNat (op : Word) : (opFamily op).toNat = op.toNat / 4096 := by
  have := op.isLt
  simp only [opFamily, BitVec.extractLsb'_toNat, Nat.shiftRight_eq_div_pow]
  omega

theorem opX_val (op : Word) : (opX op).val = op.toNat / 256 % 16 := by
  show (op.extractLsb' 8 4).toNat = _
  simp only [BitVec.extractLsb'_toNat, Nat.shiftRight_eq_div_pow]

theorem opY_val (op : Word) : (opY op).val = op.toNat / 16 % 16 := by
  show (op.extractLsb' 4 4).toNat = _
  simp only [BitVec.extractLsb'_toNat, Nat.shiftRight_eq_div_pow]

theorem opN_toNat (op : Word) : (opN op).toNat = op.toNat % 16 := by
  simp only [opN, BitVec.extractLsb'_toNat, Nat.shiftRight_eq_div_pow]
  omega

theorem opKk_toNat (op : Word) : (opKk op).toNat = op.toNat % 256 := by
  simp only [opKk, BitVec.extractLsb'_toNat, Nat.shiftRight_eq_div_pow]
  omega

theorem opNnn_toNat (op : Word) : (opNnn op).toNat = op.toNat % 4096 := by
  simp only [opNnn, BitVec.extractLsb'_toNat, Nat.shiftRight_eq_div_pow]
  omega

theorem highByte_toNat (op : Word) : (highByte op).toNat = op.toNat / 256 := by
  have := op.isLt
  simp only [highByte, BitVec.extractLsb'_toNat, Nat.shiftRight_eq_div_pow]
  omega

theorem lowByte_toNat (op : Word) : (lowByte op).toNat = op.toNat % 256 := by
  simp only [lowByte, BitVec.extractLsb'_toNat, Nat.shiftRight_eq_div_pow]
  omega

/-- Concatenation is a multiplication and an addition. -/
theorem append_toNat {n m : Nat} (x : BitVec n) (y : BitVec m) :
    (x ++ y).toNat = x.toNat * 2 ^ m + y.toNat := by
  rw [BitVec.toNat_append, ← Nat.shiftLeft_add_eq_or_of_lt y.isLt, Nat.shiftLeft_eq]

theorem wordOfBytes_toNat (hi lo : Byte) : (wordOfBytes hi lo).toNat = hi.toNat * 256 + lo.toNat :=
  append_toNat hi lo

/-- A word is the word of its two bytes. -/
@[simp] theorem wordOfBytes_bytes (op : Word) : wordOfBytes (highByte op) (lowByte op) = op := by
  apply BitVec.eq_of_toNat_eq
  rw [wordOfBytes_toNat, highByte_toNat, lowByte_toNat]
  omega

/-! ### Formats as arithmetic -/

theorem encAddr_toNat (h : Nibble) (nnn : Addr12) :
    (encAddr h nnn).toNat = h.toNat * 4096 + nnn.toNat :=
  append_toNat h nnn

theorem encRegByte_toNat (h : Nibble) (x : Reg) (kk : Byte) :
    (encRegByte h x kk).toNat = h.toNat * 4096 + x.val * 256 + kk.toNat := by
  have e : (encRegByte h x kk).toNat = (h ++ BitVec.ofFin (w := 4) x).toNat * 2 ^ 8 + kk.toNat :=
    append_toNat _ _
  rw [e, append_toNat]
  simp only [BitVec.toNat_ofFin]
  omega

theorem encRegReg_toNat (h : Nibble) (x y : Reg) (d : Nibble) :
    (encRegReg h x y d).toNat = h.toNat * 4096 + x.val * 256 + y.val * 16 + d.toNat := by
  have e : (encRegReg h x y d).toNat =
      (h ++ BitVec.ofFin (w := 4) x ++ BitVec.ofFin (w := 4) y).toNat * 2 ^ 4 + d.toNat :=
    append_toNat _ _
  rw [e, append_toNat, append_toNat]
  simp only [BitVec.toNat_ofFin]
  omega

/-! ### A field of an encoded word reads back -/

@[simp] theorem opFamily_encAddr (h : Nibble) (nnn : Addr12) : opFamily (encAddr h nnn) = h := by
  apply BitVec.eq_of_toNat_eq
  rw [opFamily_toNat, encAddr_toNat]
  omega

@[simp] theorem opNnn_encAddr (h : Nibble) (nnn : Addr12) : opNnn (encAddr h nnn) = nnn := by
  apply BitVec.eq_of_toNat_eq
  rw [opNnn_toNat, encAddr_toNat]
  omega

@[simp] theorem opFamily_encRegByte (h : Nibble) (x : Reg) (kk : Byte) :
    opFamily (encRegByte h x kk) = h := by
  apply BitVec.eq_of_toNat_eq
  rw [opFamily_toNat, encRegByte_toNat]
  have := x.lt_sixteen
  omega

@[simp] theorem opX_encRegByte (h : Nibble) (x : Reg) (kk : Byte) : opX (encRegByte h x kk) = x := by
  apply Fin.ext
  rw [opX_val, encRegByte_toNat]
  have := x.lt_sixteen
  omega

@[simp] theorem opKk_encRegByte (h : Nibble) (x : Reg) (kk : Byte) : opKk (encRegByte h x kk) = kk := by
  apply BitVec.eq_of_toNat_eq
  rw [opKk_toNat, encRegByte_toNat]
  have := x.lt_sixteen
  omega

@[simp] theorem opFamily_encRegReg (h : Nibble) (x y : Reg) (d : Nibble) :
    opFamily (encRegReg h x y d) = h := by
  apply BitVec.eq_of_toNat_eq
  rw [opFamily_toNat, encRegReg_toNat]
  have := x.lt_sixteen
  have := y.lt_sixteen
  omega

@[simp] theorem opX_encRegReg (h : Nibble) (x y : Reg) (d : Nibble) : opX (encRegReg h x y d) = x := by
  apply Fin.ext
  rw [opX_val, encRegReg_toNat]
  have := x.lt_sixteen
  have := y.lt_sixteen
  omega

@[simp] theorem opY_encRegReg (h : Nibble) (x y : Reg) (d : Nibble) : opY (encRegReg h x y d) = y := by
  apply Fin.ext
  rw [opY_val, encRegReg_toNat]
  have := x.lt_sixteen
  have := y.lt_sixteen
  omega

@[simp] theorem opN_encRegReg (h : Nibble) (x y : Reg) (d : Nibble) : opN (encRegReg h x y d) = d := by
  apply BitVec.eq_of_toNat_eq
  rw [opN_toNat, encRegReg_toNat]
  have := x.lt_sixteen
  have := y.lt_sixteen
  omega

/-! ### A word is made of its fields -/

theorem encAddr_fields (op : Word) : encAddr (opFamily op) (opNnn op) = op := by
  apply BitVec.eq_of_toNat_eq
  rw [encAddr_toNat, opFamily_toNat, opNnn_toNat]
  omega

theorem encRegByte_fields (op : Word) : encRegByte (opFamily op) (opX op) (opKk op) = op := by
  apply BitVec.eq_of_toNat_eq
  rw [encRegByte_toNat, opFamily_toNat, opX_val, opKk_toNat]
  omega

theorem encRegReg_fields (op : Word) : encRegReg (opFamily op) (opX op) (opY op) (opN op) = op := by
  apply BitVec.eq_of_toNat_eq
  rw [encRegReg_toNat, opFamily_toNat, opX_val, opY_val, opN_toNat]
  omega

/-! ### Masks as arithmetic (R77) -/

theorem and_familyMask_toNat (op : Word) : (op &&& 0xF000#16).toNat = op.toNat / 4096 * 4096 := by
  have e : op &&& 0xF000#16 = (op >>> 12) <<< 12 := by
    ext k hk
    interval_cases k <;> simp
  have := op.isLt
  rw [e, BitVec.toNat_shiftLeft, BitVec.toNat_ushiftRight, Nat.shiftLeft_eq, Nat.shiftRight_eq_div_pow]
  omega

/-- A mask that keeps the family and the low `n` bits. -/
theorem and_splitMask_toNat (op m : Word) (n : Nat) (hn : n < 12)
    (e : op &&& m = (op >>> 12) <<< 12 ||| (op &&& BitVec.ofNat 16 (2 ^ n - 1))) :
    (op &&& m).toNat = op.toNat / 4096 * 4096 + op.toNat % 2 ^ n := by
  have h1 := op.isLt
  have h2 : 2 ^ n < 2 ^ 12 := Nat.pow_lt_pow_right (by omega) hn
  have h3 : op.toNat % 2 ^ n < 2 ^ n := Nat.mod_lt _ (Nat.two_pow_pos n)
  rw [e, BitVec.toNat_or, BitVec.toNat_and, BitVec.toNat_ofNat, Nat.mod_eq_of_lt (a := 2 ^ n - 1) (by omega),
    Nat.and_two_pow_sub_one_eq_mod, BitVec.toNat_shiftLeft, BitVec.toNat_ushiftRight,
    Nat.shiftRight_eq_div_pow, Nat.mod_eq_of_lt, ← Nat.shiftLeft_add_eq_or_of_lt (by omega), Nat.shiftLeft_eq]
  rw [Nat.shiftLeft_eq]
  omega

theorem and_nibbleMask_toNat (op : Word) :
    (op &&& 0xF00F#16).toNat = op.toNat / 4096 * 4096 + op.toNat % 16 := by
  refine and_splitMask_toNat op _ 4 (by omega) ?_
  ext k hk
  interval_cases k <;> simp

theorem and_byteMask_toNat (op : Word) :
    (op &&& 0xF0FF#16).toNat = op.toNat / 4096 * 4096 + op.toNat % 256 := by
  refine and_splitMask_toNat op _ 8 (by omega) ?_
  ext k hk
  interval_cases k <;> simp

theorem and_wordMask (op : Word) : op &&& 0xFFFF#16 = op := BitVec.and_allOnes

end Sys2Proof
end

