-- ==== Sys2Proof/Laws/State.lean ====
section
/-! SUPPORT. One lemma per field per update of State, each true by computation, so that no proof unfolds a record
update; then the same for the two accessors of registers and memory. -/

namespace Sys2Proof.Machine

/-! ### setReg -/

@[simp] theorem State.setReg_mem (s : State) (x : Reg) (b : Byte) : (s.setReg x b).mem = s.mem := rfl
@[simp] theorem State.setReg_v (s : State) (x : Reg) (b : Byte) : (s.setReg x b).v = s.v.set x.val b x.isLt := rfl
@[simp] theorem State.setReg_i (s : State) (x : Reg) (b : Byte) : (s.setReg x b).i = s.i := rfl
@[simp] theorem State.setReg_pc (s : State) (x : Reg) (b : Byte) : (s.setReg x b).pc = s.pc := rfl
@[simp] theorem State.setReg_sp (s : State) (x : Reg) (b : Byte) : (s.setReg x b).sp = s.sp := rfl
@[simp] theorem State.setReg_stack (s : State) (x : Reg) (b : Byte) : (s.setReg x b).stack = s.stack := rfl
@[simp] theorem State.setReg_dt (s : State) (x : Reg) (b : Byte) : (s.setReg x b).dt = s.dt := rfl
@[simp] theorem State.setReg_st (s : State) (x : Reg) (b : Byte) : (s.setReg x b).st = s.st := rfl
@[simp] theorem State.setReg_fb (s : State) (x : Reg) (b : Byte) : (s.setReg x b).fb = s.fb := rfl
@[simp] theorem State.setReg_stopRequested (s : State) (x : Reg) (b : Byte) : (s.setReg x b).stopRequested = s.stopRequested := rfl
@[simp] theorem State.setReg_status (s : State) (x : Reg) (b : Byte) : (s.setReg x b).status = s.status := rfl
@[simp] theorem State.setReg_rendering (s : State) (x : Reg) (b : Byte) : (s.setReg x b).rendering = s.rendering := rfl
@[simp] theorem State.setReg_params (s : State) (x : Reg) (b : Byte) : (s.setReg x b).params = s.params := rfl
@[simp] theorem State.setReg_host (s : State) (x : Reg) (b : Byte) : (s.setReg x b).host = s.host := rfl
@[simp] theorem State.setReg_frames (s : State) (x : Reg) (b : Byte) : (s.setReg x b).frames = s.frames := rfl
@[simp] theorem State.setReg_readMem (s : State) (x : Reg) (b : Byte) (ad : Nat) : (s.setReg x b).readMem ad = s.readMem ad := rfl

/-! ### setI -/

@[simp] theorem State.setI_mem (s : State) (w : Word) : (s.setI w).mem = s.mem := rfl
@[simp] theorem State.setI_v (s : State) (w : Word) : (s.setI w).v = s.v := rfl
@[simp] theorem State.setI_i (s : State) (w : Word) : (s.setI w).i = w := rfl
@[simp] theorem State.setI_pc (s : State) (w : Word) : (s.setI w).pc = s.pc := rfl
@[simp] theorem State.setI_sp (s : State) (w : Word) : (s.setI w).sp = s.sp := rfl
@[simp] theorem State.setI_stack (s : State) (w : Word) : (s.setI w).stack = s.stack := rfl
@[simp] theorem State.setI_dt (s : State) (w : Word) : (s.setI w).dt = s.dt := rfl
@[simp] theorem State.setI_st (s : State) (w : Word) : (s.setI w).st = s.st := rfl
@[simp] theorem State.setI_fb (s : State) (w : Word) : (s.setI w).fb = s.fb := rfl
@[simp] theorem State.setI_stopRequested (s : State) (w : Word) : (s.setI w).stopRequested = s.stopRequested := rfl
@[simp] theorem State.setI_status (s : State) (w : Word) : (s.setI w).status = s.status := rfl
@[simp] theorem State.setI_rendering (s : State) (w : Word) : (s.setI w).rendering = s.rendering := rfl
@[simp] theorem State.setI_params (s : State) (w : Word) : (s.setI w).params = s.params := rfl
@[simp] theorem State.setI_host (s : State) (w : Word) : (s.setI w).host = s.host := rfl
@[simp] theorem State.setI_frames (s : State) (w : Word) : (s.setI w).frames = s.frames := rfl
@[simp] theorem State.setI_readMem (s : State) (w : Word) (ad : Nat) : (s.setI w).readMem ad = s.readMem ad := rfl
@[simp] theorem State.setI_reg (s : State) (w : Word) (r : Reg) : (s.setI w).reg r = s.reg r := rfl

/-! ### setPc -/

@[simp] theorem State.setPc_mem (s : State) (w : Word) : (s.setPc w).mem = s.mem := rfl
@[simp] theorem State.setPc_v (s : State) (w : Word) : (s.setPc w).v = s.v := rfl
@[simp] theorem State.setPc_i (s : State) (w : Word) : (s.setPc w).i = s.i := rfl
@[simp] theorem State.setPc_pc (s : State) (w : Word) : (s.setPc w).pc = w := rfl
@[simp] theorem State.setPc_sp (s : State) (w : Word) : (s.setPc w).sp = s.sp := rfl
@[simp] theorem State.setPc_stack (s : State) (w : Word) : (s.setPc w).stack = s.stack := rfl
@[simp] theorem State.setPc_dt (s : State) (w : Word) : (s.setPc w).dt = s.dt := rfl
@[simp] theorem State.setPc_st (s : State) (w : Word) : (s.setPc w).st = s.st := rfl
@[simp] theorem State.setPc_fb (s : State) (w : Word) : (s.setPc w).fb = s.fb := rfl
@[simp] theorem State.setPc_stopRequested (s : State) (w : Word) : (s.setPc w).stopRequested = s.stopRequested := rfl
@[simp] theorem State.setPc_status (s : State) (w : Word) : (s.setPc w).status = s.status := rfl
@[simp] theorem State.setPc_rendering (s : State) (w : Word) : (s.setPc w).rendering = s.rendering := rfl
@[simp] theorem State.setPc_params (s : State) (w : Word) : (s.setPc w).params = s.params := rfl
@[simp] theorem State.setPc_host (s : State) (w : Word) : (s.setPc w).host = s.host := rfl
@[simp] theorem State.setPc_frames (s : State) (w : Word) : (s.setPc w).frames = s.frames := rfl
@[simp] theorem State.setPc_readMem (s : State) (w : Word) (ad : Nat) : (s.setPc w).readMem ad = s.readMem ad := rfl
@[simp] theorem State.setPc_reg (s : State) (w : Word) (r : Reg) : (s.setPc w).reg r = s.reg r := rfl

/-! ### setSp -/

@[simp] theorem State.setSp_mem (s : State) (b : Byte) : (s.setSp b).mem = s.mem := rfl
@[simp] theorem State.setSp_v (s : State) (b : Byte) : (s.setSp b).v = s.v := rfl
@[simp] theorem State.setSp_i (s : State) (b : Byte) : (s.setSp b).i = s.i := rfl
@[simp] theorem State.setSp_pc (s : State) (b : Byte) : (s.setSp b).pc = s.pc := rfl
@[simp] theorem State.setSp_sp (s : State) (b : Byte) : (s.setSp b).sp = b := rfl
@[simp] theorem State.setSp_stack (s : State) (b : Byte) : (s.setSp b).stack = s.stack := rfl
@[simp] theorem State.setSp_dt (s : State) (b : Byte) : (s.setSp b).dt = s.dt := rfl
@[simp] theorem State.setSp_st (s : State) (b : Byte) : (s.setSp b).st = s.st := rfl
@[simp] theorem State.setSp_fb (s : State) (b : Byte) : (s.setSp b).fb = s.fb := rfl
@[simp] theorem State.setSp_stopRequested (s : State) (b : Byte) : (s.setSp b).stopRequested = s.stopRequested := rfl
@[simp] theorem State.setSp_status (s : State) (b : Byte) : (s.setSp b).status = s.status := rfl
@[simp] theorem State.setSp_rendering (s : State) (b : Byte) : (s.setSp b).rendering = s.rendering := rfl
@[simp] theorem State.setSp_params (s : State) (b : Byte) : (s.setSp b).params = s.params := rfl
@[simp] theorem State.setSp_host (s : State) (b : Byte) : (s.setSp b).host = s.host := rfl
@[simp] theorem State.setSp_frames (s : State) (b : Byte) : (s.setSp b).frames = s.frames := rfl
@[simp] theorem State.setSp_readMem (s : State) (b : Byte) (ad : Nat) : (s.setSp b).readMem ad = s.readMem ad := rfl
@[simp] theorem State.setSp_reg (s : State) (b : Byte) (r : Reg) : (s.setSp b).reg r = s.reg r := rfl

/-! ### setSlot -/

@[simp] theorem State.setSlot_mem (s : State) (j : Nat) (w : Word) : (s.setSlot j w).mem = s.mem := rfl
@[simp] theorem State.setSlot_v (s : State) (j : Nat) (w : Word) : (s.setSlot j w).v = s.v := rfl
@[simp] theorem State.setSlot_i (s : State) (j : Nat) (w : Word) : (s.setSlot j w).i = s.i := rfl
@[simp] theorem State.setSlot_pc (s : State) (j : Nat) (w : Word) : (s.setSlot j w).pc = s.pc := rfl
@[simp] theorem State.setSlot_sp (s : State) (j : Nat) (w : Word) : (s.setSlot j w).sp = s.sp := rfl
@[simp] theorem State.setSlot_stack (s : State) (j : Nat) (w : Word) : (s.setSlot j w).stack = s.stack.set j w := rfl
@[simp] theorem State.setSlot_dt (s : State) (j : Nat) (w : Word) : (s.setSlot j w).dt = s.dt := rfl
@[simp] theorem State.setSlot_st (s : State) (j : Nat) (w : Word) : (s.setSlot j w).st = s.st := rfl
@[simp] theorem State.setSlot_fb (s : State) (j : Nat) (w : Word) : (s.setSlot j w).fb = s.fb := rfl
@[simp] theorem State.setSlot_stopRequested (s : State) (j : Nat) (w : Word) : (s.setSlot j w).stopRequested = s.stopRequested := rfl
@[simp] theorem State.setSlot_status (s : State) (j : Nat) (w : Word) : (s.setSlot j w).status = s.status := rfl
@[simp] theorem State.setSlot_rendering (s : State) (j : Nat) (w : Word) : (s.setSlot j w).rendering = s.rendering := rfl
@[simp] theorem State.setSlot_params (s : State) (j : Nat) (w : Word) : (s.setSlot j w).params = s.params := rfl
@[simp] theorem State.setSlot_host (s : State) (j : Nat) (w : Word) : (s.setSlot j w).host = s.host := rfl
@[simp] theorem State.setSlot_frames (s : State) (j : Nat) (w : Word) : (s.setSlot j w).frames = s.frames := rfl
@[simp] theorem State.setSlot_readMem (s : State) (j : Nat) (w : Word) (ad : Nat) : (s.setSlot j w).readMem ad = s.readMem ad := rfl
@[simp] theorem State.setSlot_reg (s : State) (j : Nat) (w : Word) (r : Reg) : (s.setSlot j w).reg r = s.reg r := rfl

/-! ### setDt -/

@[simp] theorem State.setDt_mem (s : State) (b : Byte) : (s.setDt b).mem = s.mem := rfl
@[simp] theorem State.setDt_v (s : State) (b : Byte) : (s.setDt b).v = s.v := rfl
@[simp] theorem State.setDt_i (s : State) (b : Byte) : (s.setDt b).i = s.i := rfl
@[simp] theorem State.setDt_pc (s : State) (b : Byte) : (s.setDt b).pc = s.pc := rfl
@[simp] theorem State.setDt_sp (s : State) (b : Byte) : (s.setDt b).sp = s.sp := rfl
@[simp] theorem State.setDt_stack (s : State) (b : Byte) : (s.setDt b).stack = s.stack := rfl
@[simp] theorem State.setDt_dt (s : State) (b : Byte) : (s.setDt b).dt = b := rfl
@[simp] theorem State.setDt_st (s : State) (b : Byte) : (s.setDt b).st = s.st := rfl
@[simp] theorem State.setDt_fb (s : State) (b : Byte) : (s.setDt b).fb = s.fb := rfl
@[simp] theorem State.setDt_stopRequested (s : State) (b : Byte) : (s.setDt b).stopRequested = s.stopRequested := rfl
@[simp] theorem State.setDt_status (s : State) (b : Byte) : (s.setDt b).status = s.status := rfl
@[simp] theorem State.setDt_rendering (s : State) (b : Byte) : (s.setDt b).rendering = s.rendering := rfl
@[simp] theorem State.setDt_params (s : State) (b : Byte) : (s.setDt b).params = s.params := rfl
@[simp] theorem State.setDt_host (s : State) (b : Byte) : (s.setDt b).host = s.host := rfl
@[simp] theorem State.setDt_frames (s : State) (b : Byte) : (s.setDt b).frames = s.frames := rfl
@[simp] theorem State.setDt_readMem (s : State) (b : Byte) (ad : Nat) : (s.setDt b).readMem ad = s.readMem ad := rfl
@[simp] theorem State.setDt_reg (s : State) (b : Byte) (r : Reg) : (s.setDt b).reg r = s.reg r := rfl

/-! ### setSt -/

@[simp] theorem State.setSt_mem (s : State) (b : Byte) : (s.setSt b).mem = s.mem := rfl
@[simp] theorem State.setSt_v (s : State) (b : Byte) : (s.setSt b).v = s.v := rfl
@[simp] theorem State.setSt_i (s : State) (b : Byte) : (s.setSt b).i = s.i := rfl
@[simp] theorem State.setSt_pc (s : State) (b : Byte) : (s.setSt b).pc = s.pc := rfl
@[simp] theorem State.setSt_sp (s : State) (b : Byte) : (s.setSt b).sp = s.sp := rfl
@[simp] theorem State.setSt_stack (s : State) (b : Byte) : (s.setSt b).stack = s.stack := rfl
@[simp] theorem State.setSt_dt (s : State) (b : Byte) : (s.setSt b).dt = s.dt := rfl
@[simp] theorem State.setSt_st (s : State) (b : Byte) : (s.setSt b).st = b := rfl
@[simp] theorem State.setSt_fb (s : State) (b : Byte) : (s.setSt b).fb = s.fb := rfl
@[simp] theorem State.setSt_stopRequested (s : State) (b : Byte) : (s.setSt b).stopRequested = s.stopRequested := rfl
@[simp] theorem State.setSt_status (s : State) (b : Byte) : (s.setSt b).status = s.status := rfl
@[simp] theorem State.setSt_rendering (s : State) (b : Byte) : (s.setSt b).rendering = s.rendering := rfl
@[simp] theorem State.setSt_params (s : State) (b : Byte) : (s.setSt b).params = s.params := rfl
@[simp] theorem State.setSt_host (s : State) (b : Byte) : (s.setSt b).host = s.host := rfl
@[simp] theorem State.setSt_frames (s : State) (b : Byte) : (s.setSt b).frames = s.frames := rfl
@[simp] theorem State.setSt_readMem (s : State) (b : Byte) (ad : Nat) : (s.setSt b).readMem ad = s.readMem ad := rfl
@[simp] theorem State.setSt_reg (s : State) (b : Byte) (r : Reg) : (s.setSt b).reg r = s.reg r := rfl

/-! ### setFb -/

@[simp] theorem State.setFb_mem (s : State) (f : Framebuffer) : (s.setFb f).mem = s.mem := rfl
@[simp] theorem State.setFb_v (s : State) (f : Framebuffer) : (s.setFb f).v = s.v := rfl
@[simp] theorem State.setFb_i (s : State) (f : Framebuffer) : (s.setFb f).i = s.i := rfl
@[simp] theorem State.setFb_pc (s : State) (f : Framebuffer) : (s.setFb f).pc = s.pc := rfl
@[simp] theorem State.setFb_sp (s : State) (f : Framebuffer) : (s.setFb f).sp = s.sp := rfl
@[simp] theorem State.setFb_stack (s : State) (f : Framebuffer) : (s.setFb f).stack = s.stack := rfl
@[simp] theorem State.setFb_dt (s : State) (f : Framebuffer) : (s.setFb f).dt = s.dt := rfl
@[simp] theorem State.setFb_st (s : State) (f : Framebuffer) : (s.setFb f).st = s.st := rfl
@[simp] theorem State.setFb_fb (s : State) (f : Framebuffer) : (s.setFb f).fb = f := rfl
@[simp] theorem State.setFb_stopRequested (s : State) (f : Framebuffer) : (s.setFb f).stopRequested = s.stopRequested := rfl
@[simp] theorem State.setFb_status (s : State) (f : Framebuffer) : (s.setFb f).status = s.status := rfl
@[simp] theorem State.setFb_rendering (s : State) (f : Framebuffer) : (s.setFb f).rendering = s.rendering := rfl
@[simp] theorem State.setFb_params (s : State) (f : Framebuffer) : (s.setFb f).params = s.params := rfl
@[simp] theorem State.setFb_host (s : State) (f : Framebuffer) : (s.setFb f).host = s.host := rfl
@[simp] theorem State.setFb_frames (s : State) (f : Framebuffer) : (s.setFb f).frames = s.frames := rfl
@[simp] theorem State.setFb_readMem (s : State) (f : Framebuffer) (ad : Nat) : (s.setFb f).readMem ad = s.readMem ad := rfl
@[simp] theorem State.setFb_reg (s : State) (f : Framebuffer) (r : Reg) : (s.setFb f).reg r = s.reg r := rfl

/-! ### setStatus -/

@[simp] theorem State.setStatus_mem (s : State) (q : Status) : (s.setStatus q).mem = s.mem := rfl
@[simp] theorem State.setStatus_v (s : State) (q : Status) : (s.setStatus q).v = s.v := rfl
@[simp] theorem State.setStatus_i (s : State) (q : Status) : (s.setStatus q).i = s.i := rfl
@[simp] theorem State.setStatus_pc (s : State) (q : Status) : (s.setStatus q).pc = s.pc := rfl
@[simp] theorem State.setStatus_sp (s : State) (q : Status) : (s.setStatus q).sp = s.sp := rfl
@[simp] theorem State.setStatus_stack (s : State) (q : Status) : (s.setStatus q).stack = s.stack := rfl
@[simp] theorem State.setStatus_dt (s : State) (q : Status) : (s.setStatus q).dt = s.dt := rfl
@[simp] theorem State.setStatus_st (s : State) (q : Status) : (s.setStatus q).st = s.st := rfl
@[simp] theorem State.setStatus_fb (s : State) (q : Status) : (s.setStatus q).fb = s.fb := rfl
@[simp] theorem State.setStatus_stopRequested (s : State) (q : Status) : (s.setStatus q).stopRequested = s.stopRequested := rfl
@[simp] theorem State.setStatus_status (s : State) (q : Status) : (s.setStatus q).status = q := rfl
@[simp] theorem State.setStatus_rendering (s : State) (q : Status) : (s.setStatus q).rendering = s.rendering := rfl
@[simp] theorem State.setStatus_params (s : State) (q : Status) : (s.setStatus q).params = s.params := rfl
@[simp] theorem State.setStatus_host (s : State) (q : Status) : (s.setStatus q).host = s.host := rfl
@[simp] theorem State.setStatus_frames (s : State) (q : Status) : (s.setStatus q).frames = s.frames := rfl
@[simp] theorem State.setStatus_readMem (s : State) (q : Status) (ad : Nat) : (s.setStatus q).readMem ad = s.readMem ad := rfl
@[simp] theorem State.setStatus_reg (s : State) (q : Status) (r : Reg) : (s.setStatus q).reg r = s.reg r := rfl

/-! ### setRendering -/

@[simp] theorem State.setRendering_mem (s : State) (b : Bool) : (s.setRendering b).mem = s.mem := rfl
@[simp] theorem State.setRendering_v (s : State) (b : Bool) : (s.setRendering b).v = s.v := rfl
@[simp] theorem State.setRendering_i (s : State) (b : Bool) : (s.setRendering b).i = s.i := rfl
@[simp] theorem State.setRendering_pc (s : State) (b : Bool) : (s.setRendering b).pc = s.pc := rfl
@[simp] theorem State.setRendering_sp (s : State) (b : Bool) : (s.setRendering b).sp = s.sp := rfl
@[simp] theorem State.setRendering_stack (s : State) (b : Bool) : (s.setRendering b).stack = s.stack := rfl
@[simp] theorem State.setRendering_dt (s : State) (b : Bool) : (s.setRendering b).dt = s.dt := rfl
@[simp] theorem State.setRendering_st (s : State) (b : Bool) : (s.setRendering b).st = s.st := rfl
@[simp] theorem State.setRendering_fb (s : State) (b : Bool) : (s.setRendering b).fb = s.fb := rfl
@[simp] theorem State.setRendering_stopRequested (s : State) (b : Bool) : (s.setRendering b).stopRequested = s.stopRequested := rfl
@[simp] theorem State.setRendering_status (s : State) (b : Bool) : (s.setRendering b).status = s.status := rfl
@[simp] theorem State.setRendering_rendering (s : State) (b : Bool) : (s.setRendering b).rendering = b := rfl
@[simp] theorem State.setRendering_params (s : State) (b : Bool) : (s.setRendering b).params = s.params := rfl
@[simp] theorem State.setRendering_host (s : State) (b : Bool) : (s.setRendering b).host = s.host := rfl
@[simp] theorem State.setRendering_frames (s : State) (b : Bool) : (s.setRendering b).frames = s.frames := rfl
@[simp] theorem State.setRendering_readMem (s : State) (b : Bool) (ad : Nat) : (s.setRendering b).readMem ad = s.readMem ad := rfl
@[simp] theorem State.setRendering_reg (s : State) (b : Bool) (r : Reg) : (s.setRendering b).reg r = s.reg r := rfl

/-! ### writeMem -/

@[simp] theorem State.writeMem_mem (s : State) (a : Nat) (b : Byte) : (s.writeMem a b).mem = memSet s.params s.mem (a % s.params.memSize) b := rfl
@[simp] theorem State.writeMem_v (s : State) (a : Nat) (b : Byte) : (s.writeMem a b).v = s.v := rfl
@[simp] theorem State.writeMem_i (s : State) (a : Nat) (b : Byte) : (s.writeMem a b).i = s.i := rfl
@[simp] theorem State.writeMem_pc (s : State) (a : Nat) (b : Byte) : (s.writeMem a b).pc = s.pc := rfl
@[simp] theorem State.writeMem_sp (s : State) (a : Nat) (b : Byte) : (s.writeMem a b).sp = s.sp := rfl
@[simp] theorem State.writeMem_stack (s : State) (a : Nat) (b : Byte) : (s.writeMem a b).stack = s.stack := rfl
@[simp] theorem State.writeMem_dt (s : State) (a : Nat) (b : Byte) : (s.writeMem a b).dt = s.dt := rfl
@[simp] theorem State.writeMem_st (s : State) (a : Nat) (b : Byte) : (s.writeMem a b).st = s.st := rfl
@[simp] theorem State.writeMem_fb (s : State) (a : Nat) (b : Byte) : (s.writeMem a b).fb = s.fb := rfl
@[simp] theorem State.writeMem_stopRequested (s : State) (a : Nat) (b : Byte) : (s.writeMem a b).stopRequested = s.stopRequested := rfl
@[simp] theorem State.writeMem_status (s : State) (a : Nat) (b : Byte) : (s.writeMem a b).status = s.status := rfl
@[simp] theorem State.writeMem_rendering (s : State) (a : Nat) (b : Byte) : (s.writeMem a b).rendering = s.rendering := rfl
@[simp] theorem State.writeMem_params (s : State) (a : Nat) (b : Byte) : (s.writeMem a b).params = s.params := rfl
@[simp] theorem State.writeMem_host (s : State) (a : Nat) (b : Byte) : (s.writeMem a b).host = s.host := rfl
@[simp] theorem State.writeMem_frames (s : State) (a : Nat) (b : Byte) : (s.writeMem a b).frames = s.frames := rfl
@[simp] theorem State.writeMem_reg (s : State) (a : Nat) (b : Byte) (r : Reg) : (s.writeMem a b).reg r = s.reg r := rfl

/-! ### advance -/

@[simp] theorem State.advance_mem (s : State) : (s.advance).mem = s.mem := rfl
@[simp] theorem State.advance_v (s : State) : (s.advance).v = s.v := rfl
@[simp] theorem State.advance_i (s : State) : (s.advance).i = s.i := rfl
@[simp] theorem State.advance_pc (s : State) : (s.advance).pc = s.pc + 2 := rfl
@[simp] theorem State.advance_sp (s : State) : (s.advance).sp = s.sp := rfl
@[simp] theorem State.advance_stack (s : State) : (s.advance).stack = s.stack := rfl
@[simp] theorem State.advance_dt (s : State) : (s.advance).dt = s.dt := rfl
@[simp] theorem State.advance_st (s : State) : (s.advance).st = s.st := rfl
@[simp] theorem State.advance_fb (s : State) : (s.advance).fb = s.fb := rfl
@[simp] theorem State.advance_stopRequested (s : State) : (s.advance).stopRequested = s.stopRequested := rfl
@[simp] theorem State.advance_status (s : State) : (s.advance).status = s.status := rfl
@[simp] theorem State.advance_rendering (s : State) : (s.advance).rendering = s.rendering := rfl
@[simp] theorem State.advance_params (s : State) : (s.advance).params = s.params := rfl
@[simp] theorem State.advance_host (s : State) : (s.advance).host = s.host := rfl
@[simp] theorem State.advance_frames (s : State) : (s.advance).frames = s.frames := rfl
@[simp] theorem State.advance_readMem (s : State) (ad : Nat) : (s.advance).readMem ad = s.readMem ad := rfl
@[simp] theorem State.advance_reg (s : State) (r : Reg) : (s.advance).reg r = s.reg r := rfl

/-! ### skipIf -/

@[simp] theorem State.skipIf_mem (s : State) (c : Bool) : (s.skipIf c).mem = s.mem := rfl
@[simp] theorem State.skipIf_v (s : State) (c : Bool) : (s.skipIf c).v = s.v := rfl
@[simp] theorem State.skipIf_i (s : State) (c : Bool) : (s.skipIf c).i = s.i := rfl
@[simp] theorem State.skipIf_pc (s : State) (c : Bool) : (s.skipIf c).pc = s.pc + 2 + (if c then 2 else 0) := rfl
@[simp] theorem State.skipIf_sp (s : State) (c : Bool) : (s.skipIf c).sp = s.sp := rfl
@[simp] theorem State.skipIf_stack (s : State) (c : Bool) : (s.skipIf c).stack = s.stack := rfl
@[simp] theorem State.skipIf_dt (s : State) (c : Bool) : (s.skipIf c).dt = s.dt := rfl
@[simp] theorem State.skipIf_st (s : State) (c : Bool) : (s.skipIf c).st = s.st := rfl
@[simp] theorem State.skipIf_fb (s : State) (c : Bool) : (s.skipIf c).fb = s.fb := rfl
@[simp] theorem State.skipIf_stopRequested (s : State) (c : Bool) : (s.skipIf c).stopRequested = s.stopRequested := rfl
@[simp] theorem State.skipIf_status (s : State) (c : Bool) : (s.skipIf c).status = s.status := rfl
@[simp] theorem State.skipIf_rendering (s : State) (c : Bool) : (s.skipIf c).rendering = s.rendering := rfl
@[simp] theorem State.skipIf_params (s : State) (c : Bool) : (s.skipIf c).params = s.params := rfl
@[simp] theorem State.skipIf_host (s : State) (c : Bool) : (s.skipIf c).host = s.host := rfl
@[simp] theorem State.skipIf_frames (s : State) (c : Bool) : (s.skipIf c).frames = s.frames := rfl
@[simp] theorem State.skipIf_readMem (s : State) (c : Bool) (ad : Nat) : (s.skipIf c).readMem ad = s.readMem ad := rfl
@[simp] theorem State.skipIf_reg (s : State) (c : Bool) (r : Reg) : (s.skipIf c).reg r = s.reg r := rfl

/-! ### raise -/

@[simp] theorem State.raise_mem (s : State) (o : RunOutcome) : (s.raise o).mem = s.mem := rfl
@[simp] theorem State.raise_v (s : State) (o : RunOutcome) : (s.raise o).v = s.v := rfl
@[simp] theorem State.raise_i (s : State) (o : RunOutcome) : (s.raise o).i = s.i := rfl
@[simp] theorem State.raise_pc (s : State) (o : RunOutcome) : (s.raise o).pc = s.pc := rfl
@[simp] theorem State.raise_sp (s : State) (o : RunOutcome) : (s.raise o).sp = s.sp := rfl
@[simp] theorem State.raise_stack (s : State) (o : RunOutcome) : (s.raise o).stack = s.stack := rfl
@[simp] theorem State.raise_dt (s : State) (o : RunOutcome) : (s.raise o).dt = s.dt := rfl
@[simp] theorem State.raise_st (s : State) (o : RunOutcome) : (s.raise o).st = s.st := rfl
@[simp] theorem State.raise_fb (s : State) (o : RunOutcome) : (s.raise o).fb = s.fb := rfl
@[simp] theorem State.raise_stopRequested (s : State) (o : RunOutcome) : (s.raise o).stopRequested = s.stopRequested := rfl
@[simp] theorem State.raise_status (s : State) (o : RunOutcome) : (s.raise o).status = .halted o := rfl
@[simp] theorem State.raise_rendering (s : State) (o : RunOutcome) : (s.raise o).rendering = s.rendering := rfl
@[simp] theorem State.raise_params (s : State) (o : RunOutcome) : (s.raise o).params = s.params := rfl
@[simp] theorem State.raise_host (s : State) (o : RunOutcome) : (s.raise o).host = s.host := rfl
@[simp] theorem State.raise_frames (s : State) (o : RunOutcome) : (s.raise o).frames = s.frames := rfl
@[simp] theorem State.raise_readMem (s : State) (o : RunOutcome) (ad : Nat) : (s.raise o).readMem ad = s.readMem ad := rfl
@[simp] theorem State.raise_reg (s : State) (o : RunOutcome) (r : Reg) : (s.raise o).reg r = s.reg r := rfl

/-! ### takeByte -/

@[simp] theorem State.takeByte_mem (s : State) : (s.takeByte).mem = s.mem := rfl
@[simp] theorem State.takeByte_v (s : State) : (s.takeByte).v = s.v := rfl
@[simp] theorem State.takeByte_i (s : State) : (s.takeByte).i = s.i := rfl
@[simp] theorem State.takeByte_pc (s : State) : (s.takeByte).pc = s.pc := rfl
@[simp] theorem State.takeByte_sp (s : State) : (s.takeByte).sp = s.sp := rfl
@[simp] theorem State.takeByte_stack (s : State) : (s.takeByte).stack = s.stack := rfl
@[simp] theorem State.takeByte_dt (s : State) : (s.takeByte).dt = s.dt := rfl
@[simp] theorem State.takeByte_st (s : State) : (s.takeByte).st = s.st := rfl
@[simp] theorem State.takeByte_fb (s : State) : (s.takeByte).fb = s.fb := rfl
@[simp] theorem State.takeByte_stopRequested (s : State) : (s.takeByte).stopRequested = s.stopRequested := rfl
@[simp] theorem State.takeByte_status (s : State) : (s.takeByte).status = s.status := rfl
@[simp] theorem State.takeByte_rendering (s : State) : (s.takeByte).rendering = s.rendering := rfl
@[simp] theorem State.takeByte_params (s : State) : (s.takeByte).params = s.params := rfl
@[simp] theorem State.takeByte_host (s : State) : (s.takeByte).host = { s.host with rng := s.host.rng.tail, draws := s.host.draws + 1 } := rfl
@[simp] theorem State.takeByte_frames (s : State) : (s.takeByte).frames = s.frames := rfl
@[simp] theorem State.takeByte_readMem (s : State) (ad : Nat) : (s.takeByte).readMem ad = s.readMem ad := rfl
@[simp] theorem State.takeByte_reg (s : State) (r : Reg) : (s.takeByte).reg r = s.reg r := rfl

/-! ### takeKeyDown -/

@[simp] theorem State.takeKeyDown_mem (s : State) : (s.takeKeyDown).mem = s.mem := rfl
@[simp] theorem State.takeKeyDown_v (s : State) : (s.takeKeyDown).v = s.v := rfl
@[simp] theorem State.takeKeyDown_i (s : State) : (s.takeKeyDown).i = s.i := rfl
@[simp] theorem State.takeKeyDown_pc (s : State) : (s.takeKeyDown).pc = s.pc := rfl
@[simp] theorem State.takeKeyDown_sp (s : State) : (s.takeKeyDown).sp = s.sp := rfl
@[simp] theorem State.takeKeyDown_stack (s : State) : (s.takeKeyDown).stack = s.stack := rfl
@[simp] theorem State.takeKeyDown_dt (s : State) : (s.takeKeyDown).dt = s.dt := rfl
@[simp] theorem State.takeKeyDown_st (s : State) : (s.takeKeyDown).st = s.st := rfl
@[simp] theorem State.takeKeyDown_fb (s : State) : (s.takeKeyDown).fb = s.fb := rfl
@[simp] theorem State.takeKeyDown_stopRequested (s : State) : (s.takeKeyDown).stopRequested = s.stopRequested := rfl
@[simp] theorem State.takeKeyDown_status (s : State) : (s.takeKeyDown).status = s.status := rfl
@[simp] theorem State.takeKeyDown_rendering (s : State) : (s.takeKeyDown).rendering = s.rendering := rfl
@[simp] theorem State.takeKeyDown_params (s : State) : (s.takeKeyDown).params = s.params := rfl
@[simp] theorem State.takeKeyDown_host (s : State) : (s.takeKeyDown).host = { s.host with keyDowns := s.host.keyDowns.tail, draws := s.host.draws + 1 } := rfl
@[simp] theorem State.takeKeyDown_frames (s : State) : (s.takeKeyDown).frames = s.frames := rfl
@[simp] theorem State.takeKeyDown_readMem (s : State) (ad : Nat) : (s.takeKeyDown).readMem ad = s.readMem ad := rfl
@[simp] theorem State.takeKeyDown_reg (s : State) (r : Reg) : (s.takeKeyDown).reg r = s.reg r := rfl

/-! ### takePoll -/

@[simp] theorem State.takePoll_mem (s : State) : (s.takePoll).mem = s.mem := rfl
@[simp] theorem State.takePoll_v (s : State) : (s.takePoll).v = s.v := rfl
@[simp] theorem State.takePoll_i (s : State) : (s.takePoll).i = s.i := rfl
@[simp] theorem State.takePoll_pc (s : State) : (s.takePoll).pc = s.pc := rfl
@[simp] theorem State.takePoll_sp (s : State) : (s.takePoll).sp = s.sp := rfl
@[simp] theorem State.takePoll_stack (s : State) : (s.takePoll).stack = s.stack := rfl
@[simp] theorem State.takePoll_dt (s : State) : (s.takePoll).dt = s.dt := rfl
@[simp] theorem State.takePoll_st (s : State) : (s.takePoll).st = s.st := rfl
@[simp] theorem State.takePoll_fb (s : State) : (s.takePoll).fb = s.fb := rfl
@[simp] theorem State.takePoll_stopRequested (s : State) : (s.takePoll).stopRequested = s.stopRequested := rfl
@[simp] theorem State.takePoll_status (s : State) : (s.takePoll).status = s.status := rfl
@[simp] theorem State.takePoll_rendering (s : State) : (s.takePoll).rendering = s.rendering := rfl
@[simp] theorem State.takePoll_params (s : State) : (s.takePoll).params = s.params := rfl
@[simp] theorem State.takePoll_host (s : State) : (s.takePoll).host = { s.host with polls := s.host.polls.tail, draws := s.host.draws + 1 } := rfl
@[simp] theorem State.takePoll_frames (s : State) : (s.takePoll).frames = s.frames := rfl
@[simp] theorem State.takePoll_readMem (s : State) (ad : Nat) : (s.takePoll).readMem ad = s.readMem ad := rfl
@[simp] theorem State.takePoll_reg (s : State) (r : Reg) : (s.takePoll).reg r = s.reg r := rfl

/-! ### takeRender -/

@[simp] theorem State.takeRender_mem (s : State) : (s.takeRender).mem = s.mem := rfl
@[simp] theorem State.takeRender_v (s : State) : (s.takeRender).v = s.v := rfl
@[simp] theorem State.takeRender_i (s : State) : (s.takeRender).i = s.i := rfl
@[simp] theorem State.takeRender_pc (s : State) : (s.takeRender).pc = s.pc := rfl
@[simp] theorem State.takeRender_sp (s : State) : (s.takeRender).sp = s.sp := rfl
@[simp] theorem State.takeRender_stack (s : State) : (s.takeRender).stack = s.stack := rfl
@[simp] theorem State.takeRender_dt (s : State) : (s.takeRender).dt = s.dt := rfl
@[simp] theorem State.takeRender_st (s : State) : (s.takeRender).st = s.st := rfl
@[simp] theorem State.takeRender_fb (s : State) : (s.takeRender).fb = s.fb := rfl
@[simp] theorem State.takeRender_stopRequested (s : State) : (s.takeRender).stopRequested = s.stopRequested := rfl
@[simp] theorem State.takeRender_status (s : State) : (s.takeRender).status = s.status := rfl
@[simp] theorem State.takeRender_rendering (s : State) : (s.takeRender).rendering = s.rendering := rfl
@[simp] theorem State.takeRender_params (s : State) : (s.takeRender).params = s.params := rfl
@[simp] theorem State.takeRender_host (s : State) : (s.takeRender).host = { s.host with renders := s.host.renders.tail, draws := s.host.draws + 1 } := rfl
@[simp] theorem State.takeRender_frames (s : State) : (s.takeRender).frames = s.frames := rfl
@[simp] theorem State.takeRender_readMem (s : State) (ad : Nat) : (s.takeRender).readMem ad = s.readMem ad := rfl
@[simp] theorem State.takeRender_reg (s : State) (r : Reg) : (s.takeRender).reg r = s.reg r := rfl

/-! ### showFrame -/

@[simp] theorem State.showFrame_mem (s : State) : (s.showFrame).mem = s.mem := rfl
@[simp] theorem State.showFrame_v (s : State) : (s.showFrame).v = s.v := rfl
@[simp] theorem State.showFrame_i (s : State) : (s.showFrame).i = s.i := rfl
@[simp] theorem State.showFrame_pc (s : State) : (s.showFrame).pc = s.pc := rfl
@[simp] theorem State.showFrame_sp (s : State) : (s.showFrame).sp = s.sp := rfl
@[simp] theorem State.showFrame_stack (s : State) : (s.showFrame).stack = s.stack := rfl
@[simp] theorem State.showFrame_dt (s : State) : (s.showFrame).dt = s.dt := rfl
@[simp] theorem State.showFrame_st (s : State) : (s.showFrame).st = s.st := rfl
@[simp] theorem State.showFrame_fb (s : State) : (s.showFrame).fb = s.fb := rfl
@[simp] theorem State.showFrame_stopRequested (s : State) : (s.showFrame).stopRequested = s.stopRequested := rfl
@[simp] theorem State.showFrame_status (s : State) : (s.showFrame).status = s.status := rfl
@[simp] theorem State.showFrame_rendering (s : State) : (s.showFrame).rendering = s.rendering := rfl
@[simp] theorem State.showFrame_params (s : State) : (s.showFrame).params = s.params := rfl
@[simp] theorem State.showFrame_host (s : State) : (s.showFrame).host = s.host := rfl
@[simp] theorem State.showFrame_frames (s : State) : (s.showFrame).frames = s.fb :: s.frames := rfl
@[simp] theorem State.showFrame_readMem (s : State) (ad : Nat) : (s.showFrame).readMem ad = s.readMem ad := rfl
@[simp] theorem State.showFrame_reg (s : State) (r : Reg) : (s.showFrame).reg r = s.reg r := rfl

/-! ### takeAct -/

@[simp] theorem State.takeAct_mem (s : State) : (s.takeAct).mem = s.mem := rfl
@[simp] theorem State.takeAct_v (s : State) : (s.takeAct).v = s.v := rfl
@[simp] theorem State.takeAct_i (s : State) : (s.takeAct).i = s.i := rfl
@[simp] theorem State.takeAct_pc (s : State) : (s.takeAct).pc = s.pc := rfl
@[simp] theorem State.takeAct_sp (s : State) : (s.takeAct).sp = s.sp := rfl
@[simp] theorem State.takeAct_stack (s : State) : (s.takeAct).stack = s.stack := rfl
@[simp] theorem State.takeAct_dt (s : State) : (s.takeAct).dt = s.dt := rfl
@[simp] theorem State.takeAct_st (s : State) : (s.takeAct).st = s.st := rfl
@[simp] theorem State.takeAct_fb (s : State) : (s.takeAct).fb = s.fb := rfl
@[simp] theorem State.takeAct_stopRequested (s : State) : (s.takeAct).stopRequested = s.stopRequested := rfl
@[simp] theorem State.takeAct_status (s : State) : (s.takeAct).status = s.status := rfl
@[simp] theorem State.takeAct_rendering (s : State) : (s.takeAct).rendering = s.rendering := rfl
@[simp] theorem State.takeAct_params (s : State) : (s.takeAct).params = s.params := rfl
@[simp] theorem State.takeAct_host (s : State) : (s.takeAct).host = { s.host with acts := s.host.acts.tail, draws := s.host.draws + 1 } := rfl
@[simp] theorem State.takeAct_frames (s : State) : (s.takeAct).frames = s.frames := rfl
@[simp] theorem State.takeAct_readMem (s : State) (ad : Nat) : (s.takeAct).readMem ad = s.readMem ad := rfl
@[simp] theorem State.takeAct_reg (s : State) (r : Reg) : (s.takeAct).reg r = s.reg r := rfl

/-! ### requestStop -/

@[simp] theorem State.requestStop_mem (s : State) : (s.requestStop).mem = s.mem := rfl
@[simp] theorem State.requestStop_v (s : State) : (s.requestStop).v = s.v := rfl
@[simp] theorem State.requestStop_i (s : State) : (s.requestStop).i = s.i := rfl
@[simp] theorem State.requestStop_pc (s : State) : (s.requestStop).pc = s.pc := rfl
@[simp] theorem State.requestStop_sp (s : State) : (s.requestStop).sp = s.sp := rfl
@[simp] theorem State.requestStop_stack (s : State) : (s.requestStop).stack = s.stack := rfl
@[simp] theorem State.requestStop_dt (s : State) : (s.requestStop).dt = s.dt := rfl
@[simp] theorem State.requestStop_st (s : State) : (s.requestStop).st = s.st := rfl
@[simp] theorem State.requestStop_fb (s : State) : (s.requestStop).fb = s.fb := rfl
@[simp] theorem State.requestStop_stopRequested (s : State) : (s.requestStop).stopRequested = true := rfl
@[simp] theorem State.requestStop_status (s : State) : (s.requestStop).status = s.status := rfl
@[simp] theorem State.requestStop_rendering (s : State) : (s.requestStop).rendering = s.rendering := rfl
@[simp] theorem State.requestStop_params (s : State) : (s.requestStop).params = s.params := rfl
@[simp] theorem State.requestStop_host (s : State) : (s.requestStop).host = s.host := rfl
@[simp] theorem State.requestStop_frames (s : State) : (s.requestStop).frames = s.frames := rfl
@[simp] theorem State.requestStop_readMem (s : State) (ad : Nat) : (s.requestStop).readMem ad = s.readMem ad := rfl
@[simp] theorem State.requestStop_reg (s : State) (r : Reg) : (s.requestStop).reg r = s.reg r := rfl

end Sys2Proof.Machine
end

