-- ==== Sys2Proof/Laws/Memory.lean ====
section
/-! SUPPORT. Memory: a byte written reads back and every other byte is left alone (20_memory.md R53, R54), and every
memory operation keeps the canonical form. -/

namespace Sys2Proof.Machine

/-! ### Cells -/

/-- FONT_BASE is 0, so memory after construction reads FONT from address 0 on and 0 after it (R261). -/
theorem memBackground_eq (p : Params) (a : Nat) : memBackground p a = fontByte p a := by
  simp [memBackground]

@[simp] theorem memGet_nil (p : Params) (a : Nat) : memGet p [] a = memBackground p a := rfl

theorem memGet_cons (p : Params) (c : Host.Cell) (m : List Host.Cell) (a : Nat) :
    memGet p (c :: m) a = if c.1 = a then c.2 else memGet p m a := rfl

theorem memGet_memPut (p : Params) (m : List Host.Cell) (a b : Nat) (v : Byte) :
    memGet p (memPut m a v) b = if b = a then v else memGet p m b := by
  induction m with
  | nil =>
    simp only [memPut, memGet_cons, memGet_nil]
    grind
  | cons c m ih =>
    simp only [memPut]
    split
    · simp only [memGet_cons]
      grind
    · split
      · simp only [memGet_cons]
        grind
      · simp only [memGet_cons, ih]
        grind

theorem memGet_memDrop (p : Params) (m : List Host.Cell) (a b : Nat) :
    memGet p (memDrop m a) b = if b = a then memBackground p b else memGet p m b := by
  induction m with
  | nil => simp [memDrop]
  | cons c m ih =>
    unfold memDrop at ih ⊢
    rw [List.filter_cons]
    split
    · simp only [memGet_cons, ih]
      grind
    · simp only [memGet_cons, ih]
      grind

theorem memGet_memSet (p : Params) (m : List Host.Cell) (a b : Nat) (v : Byte) :
    memGet p (memSet p m a v) b = if b = a then v else memGet p m b := by
  unfold memSet
  split
  · rw [memGet_memDrop]
    grind
  · rw [memGet_memPut]

/-! ### The canonical form -/

theorem mem_memPut {m : List Host.Cell} {a : Nat} {v : Byte} {c : Host.Cell} (h : c ∈ memPut m a v) :
    c = (a, v) ∨ c ∈ m := by
  induction m with
  | nil => simpa [memPut] using h
  | cons d m ih =>
    simp only [memPut] at h
    split at h
    · simpa using h
    · split at h
      · simp only [List.mem_cons] at h ⊢
        tauto
      · simp only [List.mem_cons] at h ⊢
        rcases h with h | h
        · tauto
        · rcases ih h with h | h <;> tauto

theorem pairwise_memPut {m : List Host.Cell} (a : Nat) (v : Byte) (h : m.Pairwise (fun c d => c.1 < d.1)) :
    (memPut m a v).Pairwise (fun c d => c.1 < d.1) := by
  induction m with
  | nil => simp [memPut]
  | cons d m ih =>
    rw [List.pairwise_cons] at h
    simp only [memPut]
    split
    case isTrue hlt =>
      refine List.pairwise_cons.2 ⟨fun c hc => ?_, List.pairwise_cons.2 h⟩
      rcases List.mem_cons.1 hc with rfl | hc
      · exact hlt
      · exact Nat.lt_trans hlt (h.1 c hc)
    case isFalse hge =>
      split
      case isTrue heq => exact List.pairwise_cons.2 ⟨fun c hc => heq ▸ h.1 c hc, h.2⟩
      case isFalse hne =>
        refine List.pairwise_cons.2 ⟨fun c hc => ?_, ih h.2⟩
        rcases mem_memPut hc with rfl | hc
        · show d.1 < a
          omega
        · exact h.1 c hc

/-- Writing a byte inside memory keeps the canonical form. -/
theorem memSet_wf {p : Params} {m : List Host.Cell} {a : Nat} (v : Byte) (ha : a < p.memSize)
    (h : Memory.wf p m) : Memory.wf p (memSet p m a v) := by
  unfold memSet
  split
  · exact ⟨h.1.filter _, fun c hc => h.2 c (List.mem_of_mem_filter hc)⟩
  case isFalse hv =>
    refine ⟨pairwise_memPut a v h.1, fun c hc => ?_⟩
    rcases mem_memPut hc with rfl | hc
    · exact ⟨ha, hv⟩
    · exact h.2 c hc

/-! ### Accesses -/

/-- A byte written reads back at every address that names it, and no other byte changes (R53, R54). -/
theorem State.writeMem_readMem (s : State) (a : Nat) (b : Byte) (c : Nat) :
    (s.writeMem a b).readMem c =
      if c % s.params.memSize = a % s.params.memSize then b else s.readMem c :=
  memGet_memSet s.params s.mem _ _ b

/-- A write keeps the canonical form. -/
theorem State.writeMem_wf {s : State} (a : Nat) (b : Byte) (hs : 0 < s.params.memSize)
    (h : Memory.wf s.params s.mem) : Memory.wf (s.writeMem a b).params (s.writeMem a b).mem :=
  memSet_wf b (Nat.mod_lt a hs) h

/-- Memory after construction lists nothing, so it has the canonical form. -/
theorem State.initial_wf (p : Params) : Memory.wf (State.initial p).params (State.initial p).mem :=
  ⟨List.Pairwise.nil, by simp [State.initial]⟩

/-- What memory reads as after construction (R37, R56). -/
theorem State.initial_readMem (p : Params) (a : Nat) :
    (State.initial p).readMem a = memBackground p (a % p.memSize) := rfl

end Sys2Proof.Machine
end

