-- ==== Sys2Proof/Laws/Registers.lean ====
section
/-! SUPPORT. Registers, the flag write, and the shared ends of instructions: what each leaves, said once. -/

namespace Sys2Proof.Machine

/-- A register written reads back, and no other register changes (R21). -/
@[simp] theorem State.setReg_reg (s : State) (x : Reg) (b : Byte) (r : Reg) :
    (s.setReg x b).reg r = if r = x then b else s.reg r := by
  simp only [State.reg, State.setReg_v, Fin.getElem_fin, Vector.getElem_set, Fin.ext_iff, eq_comm]

/-- The result, then the flag: VF holds the flag whatever the destination (R22, R140). -/
theorem State.setResultAndFlag_reg (s : State) (x : Reg) (b : Byte) (f : Bool) (r : Reg) :
    (s.setResultAndFlag x b f).reg r =
      if r = Reg.flag then flagByte f else if r = x then b else s.reg r := by
  simp only [State.setResultAndFlag, State.setReg_reg]

@[simp] theorem State.showFrame_nextRender (s : State) : s.showFrame.nextRender = s.nextRender := rfl

/-- Everything the wait for the Display can do: the call stays under way, or PC advances, or the run ends with the
Display's error and PC stays (R192, R237, R246). -/
theorem State.awaitDisplay_cases (s : State) :
    (s.nextRender = .pending ∧ s.awaitDisplay = { s.takeRender with rendering := true }) ∨
    (s.nextRender = .ok ∧ s.awaitDisplay = { s.takeRender with pc := s.pc + 2, rendering := false }) ∨
    (∃ e, s.nextRender = .error e ∧
      s.awaitDisplay = { s.takeRender with status := .halted (.renderFailure e), rendering := false }) := by
  unfold State.awaitDisplay
  split
  case h_1 h => exact .inl ⟨h, rfl⟩
  case h_2 h => exact .inr (.inl ⟨h, rfl⟩)
  case h_3 e h => exact .inr (.inr ⟨e, h, rfl⟩)

/-- Whatever the Display answers, the wait for it changes PC, the status, whether the render is under way, and the
host's script, and nothing else (R192: the Display never writes the core's state). -/
theorem State.awaitDisplay_frame (s : State) :
    s.awaitDisplay =
      { s with
        pc := s.awaitDisplay.pc
        status := s.awaitDisplay.status
        rendering := s.awaitDisplay.rendering
        host := s.takeRender.host } := by
  rcases s.awaitDisplay_cases with ⟨-, h⟩ | ⟨-, h⟩ | ⟨e, -, h⟩ <;> rw [h] <;> rfl

/-- Everything render() and advance() can do: the snapshot is handed over in every case (R192, R194, R195). -/
theorem State.renderThenAdvance_cases (s : State) :
    (s.nextRender = .pending ∧
      s.renderThenAdvance = { s.takeRender with frames := s.fb :: s.frames, rendering := true }) ∨
    (s.nextRender = .ok ∧
      s.renderThenAdvance =
        { s.takeRender with frames := s.fb :: s.frames, pc := s.pc + 2, rendering := false }) ∨
    (∃ e, s.nextRender = .error e ∧
      s.renderThenAdvance =
        { s.takeRender with
          frames := s.fb :: s.frames
          status := .halted (.renderFailure e)
          rendering := false }) :=
  s.showFrame.awaitDisplay_cases

/-- Everything the key wait can do (R215). -/
theorem State.awaitKey_cases (s : State) (x : Reg) :
    (s.nextPoll = .pending ∧ s.awaitKey x = s.takePoll.setStatus (.waitingForKey x)) ∨
    (∃ k, s.nextPoll = .key k ∧ k < 16 ∧
      s.awaitKey x = ((s.takePoll.setStatus .running).setReg x (BitVec.ofNat Config.vWidth k)).advance) ∨
    (∃ k, s.nextPoll = .key k ∧ 16 ≤ k ∧
      s.awaitKey x = s.takePoll.raise (.keypadFailure (.badKeyCode k))) ∨
    (s.nextPoll = .cancel ∧ s.awaitKey x = s.takePoll.raise .cancellation) ∨
    (∃ e, s.nextPoll = .error e ∧ s.awaitKey x = s.takePoll.raise (.keypadFailure (.backend e))) := by
  unfold State.awaitKey
  split
  case h_1 h => exact .inl ⟨h, rfl⟩
  case h_2 k h =>
    split
    case isTrue hk => exact .inr (.inl ⟨k, h, hk, rfl⟩)
    case isFalse hk => exact .inr (.inr (.inl ⟨k, h, Nat.le_of_not_lt hk, rfl⟩))
  case h_3 h => exact .inr (.inr (.inr (.inl ⟨h, rfl⟩)))
  case h_4 e h => exact .inr (.inr (.inr (.inr ⟨e, h, rfl⟩)))

end Sys2Proof.Machine
end

