-- ==== Sys2Proof/Laws/Transfers.lean ====
section
/-! SUPPORT. Loops, and what the block transfers and the loader do over the whole loop (43_index_memory.md,
70_reset_and_hazards.md). -/

namespace Sys2Proof.Machine

@[simp] theorem forRange_zero {α : Type} (f : Nat → α → α) (a : α) : forRange f 0 a = a := rfl

theorem forRange_succ {α : Type} (f : Nat → α → α) (n : Nat) (a : α) :
    forRange f (n + 1) a = f n (forRange f n a) := rfl

/-- What every turn of a loop keeps, the loop keeps. -/
theorem forRange_induct {α : Type} {f : Nat → α → α} {P : α → Prop} (n : Nat) (a : α) (h0 : P a)
    (hf : ∀ k b, k < n → P b → P (f k b)) : P (forRange f n a) := by
  induction n with
  | zero => exact h0
  | succ n ih => exact hf n _ (Nat.lt_succ_self n) (ih fun k b hk => hf k b (Nat.lt_succ_of_lt hk))

/-! ### LD Vx, [I] -/

/-- The load loop writes the register file and nothing else. -/
theorem loadLoop_frame (n : Nat) (s : State) :
    forRange State.loadOne n s = { s with v := (forRange State.loadOne n s).v } := by
  induction n with
  | zero => rfl
  | succ n ih => rw [forRange_succ, ih]; rfl

/-- After `n` turns V0 to V(n-1) hold the bytes at I on, and the other registers are unchanged (R175). -/
theorem loadLoop_reg (n : Nat) (hn : n ≤ 16) (s : State) (r : Reg) :
    (forRange State.loadOne n s).reg r = if r.val < n then s.readMem (s.dataAddr r.val) else s.reg r := by
  induction n with
  | zero => simp
  | succ n ih =>
    have hr : (Fin.ofNat Config.numV n).val = n := Nat.mod_eq_of_lt hn
    have hm : (forRange State.loadOne n s).readMem ((forRange State.loadOne n s).dataAddr n) =
        s.readMem (s.dataAddr n) := by rw [loadLoop_frame]; rfl
    rw [forRange_succ, State.loadOne, State.setReg_reg, ih (by omega), hm]
    by_cases h : r.val = n
    · subst h
      rw [if_pos (Fin.ext hr.symm), if_pos (Nat.lt_succ_self _)]
    · rw [if_neg (fun e => h (by rw [e, hr]))]
      by_cases h' : r.val < n
      · rw [if_pos h', if_pos (by omega)]
      · rw [if_neg h', if_neg (by omega)]

/-! ### LD [I], Vx -/

/-- The store loop writes memory and nothing else. -/
theorem storeLoop_frame (n : Nat) (s : State) :
    forRange State.storeOne n s = { s with mem := (forRange State.storeOne n s).mem } := by
  induction n with
  | zero => rfl
  | succ n ih => rw [forRange_succ, ih]; rfl

/-- After `n` turns an address that names none of the bytes at I to I + n - 1 reads as before (R174). -/
theorem storeLoop_readMem_outside (n : Nat) (s : State) (c : Nat)
    (hc : ∀ k, k < n → c % s.params.memSize ≠ s.dataAddr k % s.params.memSize) :
    (forRange State.storeOne n s).readMem c = s.readMem c := by
  induction n with
  | zero => rfl
  | succ n ih =>
    have hp : (forRange State.storeOne n s).params = s.params := by rw [storeLoop_frame]
    have hd : (forRange State.storeOne n s).dataAddr n = s.dataAddr n := by rw [storeLoop_frame]; rfl
    rw [forRange_succ, State.storeOne, State.writeMem_readMem, hp, hd, if_neg (hc n (Nat.lt_succ_self n)),
      ih fun k hk => hc k (Nat.lt_succ_of_lt hk)]

/-- After `n` turns the byte at I + k holds V[k], for k below n, when memory has at least 16 bytes (R174). -/
theorem storeLoop_readMem_inside (n : Nat) (hn : n ≤ 16) (s : State) (hm : 16 ≤ s.params.memSize) (k : Nat)
    (hk : k < n) : (forRange State.storeOne n s).readMem (s.dataAddr k) = s.reg (Fin.ofNat Config.numV k) := by
  induction n with
  | zero => omega
  | succ n ih =>
    have hp : (forRange State.storeOne n s).params = s.params := by rw [storeLoop_frame]
    have hd : (forRange State.storeOne n s).dataAddr n = s.dataAddr n := by rw [storeLoop_frame]; rfl
    have hr : (forRange State.storeOne n s).reg (Fin.ofNat Config.numV n) = s.reg (Fin.ofNat Config.numV n) := by
      rw [storeLoop_frame]; rfl
    rw [forRange_succ, State.storeOne, State.writeMem_readMem, hp, hd, hr]
    by_cases h : k = n
    · rw [h, if_pos rfl]
    · have hne : s.dataAddr k % s.params.memSize ≠ s.dataAddr n % s.params.memSize := by
        intro he
        simp only [State.dataAddr] at he
        have h1 := Nat.sub_mod_eq_zero_of_mod_eq he.symm
        rw [show s.i.toNat + n - (s.i.toNat + k) = n - k by omega, Nat.mod_eq_of_lt (by omega)] at h1
        omega
      rw [if_neg hne, ih (by omega) (by omega)]

/-- The store loop keeps the canonical form of memory. -/
theorem storeLoop_wf (n : Nat) (s : State) (hs : 0 < s.params.memSize) (h : Memory.wf s.params s.mem) :
    Memory.wf (forRange State.storeOne n s).params (forRange State.storeOne n s).mem := by
  refine (forRange_induct (P := fun t => 0 < t.params.memSize ∧ Memory.wf t.params t.mem) n s ⟨hs, h⟩ ?_).2
  intro k t _ ht
  exact ⟨ht.1, State.writeMem_wf _ _ ht.1 ht.2⟩

/-! ### The loader -/

/-- The loader writes memory and nothing else. -/
theorem writeBytes_frame (bs : List Byte) (a : Nat) (s : State) :
    State.writeBytes bs a s = { s with mem := (State.writeBytes bs a s).mem } := by
  induction bs generalizing a s with
  | nil => rfl
  | cons b bs ih => rw [State.writeBytes, ih]; rfl

/-- An address below memory's size that is not loaded reads as before (R262). -/
theorem writeBytes_readMem_outside (bs : List Byte) (a : Nat) (s : State) (c : Nat)
    (hfit : a + bs.length ≤ s.params.memSize) (hc : c < s.params.memSize)
    (hout : c < a ∨ a + bs.length ≤ c) : (State.writeBytes bs a s).readMem c = s.readMem c := by
  induction bs generalizing a s with
  | nil => rfl
  | cons b bs ih =>
    simp only [List.length_cons] at hfit hout
    rw [State.writeBytes, ih (a + 1) (s.writeMem a b) (by simpa using by omega) (by simpa using hc) (by omega),
      State.writeMem_readMem, Nat.mod_eq_of_lt hc, Nat.mod_eq_of_lt (by omega), if_neg (by omega)]

/-- Byte `k` of the program reads back at the load address plus `k` (R262). -/
theorem writeBytes_readMem_inside (bs : List Byte) (a : Nat) (s : State) (k : Nat) (hk : k < bs.length)
    (hfit : a + bs.length ≤ s.params.memSize) : (State.writeBytes bs a s).readMem (a + k) = bs[k] := by
  induction bs generalizing a s k with
  | nil => simp at hk
  | cons b bs ih =>
    simp only [List.length_cons] at hfit hk
    rw [State.writeBytes]
    cases k with
    | zero =>
      rw [writeBytes_readMem_outside bs (a + 1) _ _ (by simpa using by omega) (by simpa using by omega)
        (by omega), State.writeMem_readMem, Nat.add_zero, if_pos rfl]
      rfl
    | succ k =>
      have := ih (a + 1) (s.writeMem a b) k (by omega) (by simpa using by omega)
      rw [show a + (k + 1) = a + 1 + k by omega, this]
      rfl

end Sys2Proof.Machine
end

