-- ==== Sys2Proof/Laws/Graphics.lean ====
section
/-! SUPPORT. The compositor, said once: which cells a sprite covers, what becomes of each cell, and when there is a
collision (44_graphics.md R190, R191). -/

namespace Sys2Proof.Machine

theorem cell_val (px py : Nat) : (cell px py).val = py % 32 * 64 + px % 64 := rfl

@[simp] theorem rowCount_val (n : Nibble) : (rowCount n).val = n.toNat := rfl

/-- What DRW composes, its row count as a plain number (R195). -/
theorem State.drawn_eq (s : State) (x y : Reg) (n : Nibble) :
    s.drawn x y n = composite (s.reg x).toNat (s.reg y).toNat n.toNat s.spriteRow s.fb := rfl

/-- Two columns of one row of a sprite reach two cells (R191). -/
theorem cell_col_inj {xs y c d : Nat} (hc : c < 8) (hd : d < 8) (h : cell (xs + c) y = cell (xs + d) y) :
    c = d := by
  have := congrArg Fin.val h
  rw [cell_val, cell_val] at this
  omega

/-- Two rows of a sprite reach no common cell (R191). -/
theorem cell_row_inj {xs ys c d r q : Nat} (hr : r < 32) (hq : q < 32)
    (h : cell (xs + c) (ys + r) = cell (xs + d) (ys + q)) : r = q := by
  have := congrArg Fin.val h
  rw [cell_val, cell_val] at this
  omega

theorem plot_getLsbD (bit : Bool) (p q : Fin 2048) (acc : Framebuffer × Bool) :
    (plot bit p acc).1.getLsbD q = (acc.1.getLsbD q ^^ (bit && decide (p = q))) := by
  unfold plot
  cases bit
  · simp
  · simp [Fin.ext_iff, eq_comm]

theorem plot_collision (bit : Bool) (p : Fin 2048) (acc : Framebuffer × Bool) :
    (plot bit p acc).2 = (acc.2 || (bit && acc.1.getLsbD p)) := by
  unfold plot
  cases bit <;> simp

/-- The first `n` columns of a row, cell by cell. -/
theorem plotCols_getLsbD (xs y : Nat) (row : Byte) (acc : Framebuffer × Bool) (n : Nat) (hn : n ≤ 8)
    (q : Fin 2048) :
    (forRange (fun c acc => plot (row.getLsbD (7 - c)) (cell (xs + c) y) acc) n acc).1.getLsbD q =
      (acc.1.getLsbD q ^^ decide (∃ c, c < n ∧ row.getLsbD (7 - c) = true ∧ cell (xs + c) y = q)) := by
  induction n with
  | zero => simp
  | succ n ih =>
    rw [forRange_succ, plot_getLsbD, ih (by omega), Bool.xor_assoc]
    congr 1
    by_cases hb : row.getLsbD (7 - n) = true ∧ cell (xs + n) y = q
    · have hno : ¬ ∃ c, c < n ∧ row.getLsbD (7 - c) = true ∧ cell (xs + c) y = q := by
        rintro ⟨c, hc, -, he⟩
        have := cell_col_inj (by omega) (by omega) (he.trans hb.2.symm)
        omega
      have hyes : ∃ c, c < n + 1 ∧ row.getLsbD (7 - c) = true ∧ cell (xs + c) y = q := ⟨n, by omega, hb⟩
      rw [decide_eq_false hno, decide_eq_true hyes, hb.1, decide_eq_true hb.2]
      rfl
    · have hiff : (∃ c, c < n + 1 ∧ row.getLsbD (7 - c) = true ∧ cell (xs + c) y = q) ↔
          ∃ c, c < n ∧ row.getLsbD (7 - c) = true ∧ cell (xs + c) y = q := by
        constructor
        · rintro ⟨c, hc, h⟩
          refine ⟨c, ?_, h⟩
          rcases Nat.lt_succ_iff_lt_or_eq.1 hc with hc | rfl
          · exact hc
          · exact absurd h hb
        · rintro ⟨c, hc, h⟩
          exact ⟨c, by omega, h⟩
      have hf : (row.getLsbD (7 - n) && decide (cell (xs + n) y = q)) = false := by
        simpa [Bool.and_eq_true, decide_eq_true_eq] using hb
      rw [decide_eq_decide.2 hiff, hf, Bool.xor_false]

/-- The first `n` columns of a row: whether they collide. -/
theorem plotCols_collision (xs y : Nat) (row : Byte) (acc : Framebuffer × Bool) (n : Nat) (hn : n ≤ 8) :
    (forRange (fun c acc => plot (row.getLsbD (7 - c)) (cell (xs + c) y) acc) n acc).2 =
      (acc.2 || decide (∃ c, c < n ∧ row.getLsbD (7 - c) = true ∧
        acc.1.getLsbD (cell (xs + c) y) = true)) := by
  induction n with
  | zero => simp
  | succ n ih =>
    rw [forRange_succ, plot_collision, ih (by omega), plotCols_getLsbD xs y row acc n (by omega)]
    have hno : ¬ ∃ c, c < n ∧ row.getLsbD (7 - c) = true ∧ cell (xs + c) y = cell (xs + n) y := by
      rintro ⟨c, hc, -, he⟩
      have := cell_col_inj (by omega) (by omega) he
      omega
    rw [decide_eq_false hno, Bool.xor_false, Bool.or_assoc]
    congr 1
    rw [Bool.eq_iff_iff]
    simp only [Bool.or_eq_true, Bool.and_eq_true, decide_eq_true_eq]
    constructor
    · rintro (⟨c, hc, h⟩ | h)
      · exact ⟨c, by omega, h⟩
      · exact ⟨n, by omega, h⟩
    · rintro ⟨c, hc, h⟩
      rcases Nat.lt_succ_iff_lt_or_eq.1 hc with hc | rfl
      · exact .inl ⟨c, hc, h⟩
      · exact .inr h

/-- A cell after a draw is flipped if the sprite covers it and unchanged if not (R191, R193). -/
theorem composite_cell (xs ys n : Nat) (rows : Nat → Byte) (fb : Framebuffer) (hn : n ≤ 32) (q : Fin 2048)
    [Decidable (covers xs ys n rows q)] :
    (composite xs ys n rows fb).1.getLsbD q = (fb.getLsbD q ^^ decide (covers xs ys n rows q)) := by
  classical
  suffices h : (composite xs ys n rows fb).1.getLsbD q =
      (fb.getLsbD q ^^ @decide (covers xs ys n rows q) (Classical.propDecidable _)) by
    rw [h]; congr 2
  induction n with
  | zero => simp [composite, covers]
  | succ n ih =>
    have ih := ih (by omega)
    unfold composite at ih ⊢
    rw [forRange_succ, plotRow, plotCols_getLsbD _ _ _ _ _ (by decide), ih, Bool.xor_assoc]
    congr 1
    by_cases hb : ∃ c, c < 8 ∧ (rows n).getLsbD (7 - c) = true ∧ cell (xs + c) (ys + n) = q
    · have hno : ¬ covers xs ys n rows q := by
        rintro ⟨r, hr, c, -, -, he⟩
        obtain ⟨d, -, -, hd⟩ := hb
        have := cell_row_inj (by omega) (by omega) (he.trans hd.symm)
        omega
      have hyes : covers xs ys (n + 1) rows q := ⟨n, by omega, hb⟩
      rw [decide_eq_false hno, decide_eq_true hyes, decide_eq_true hb]
      rfl
    · have hiff : covers xs ys (n + 1) rows q ↔ covers xs ys n rows q := by
        constructor
        · rintro ⟨r, hr, h⟩
          refine ⟨r, ?_, h⟩
          rcases Nat.lt_succ_iff_lt_or_eq.1 hr with hr | rfl
          · exact hr
          · exact absurd h hb
        · rintro ⟨r, hr, h⟩
          exact ⟨r, by omega, h⟩
      rw [decide_eq_false hb, Bool.xor_false]
      exact (decide_eq_decide.2 hiff).symm

/-- A draw collides exactly when the sprite covers a cell that was lit before it (R191, R196). -/
theorem composite_collision (xs ys n : Nat) (rows : Nat → Byte) (fb : Framebuffer) (hn : n ≤ 32) :
    (composite xs ys n rows fb).2 = true ↔ ∃ q, covers xs ys n rows q ∧ fb.getLsbD q = true := by
  classical
  induction n with
  | zero => simp [composite, covers]
  | succ n ih =>
    have ih := ih (by omega)
    have hc := fun q => composite_cell xs ys n rows fb (by omega) q
    unfold composite at ih hc ⊢
    rw [forRange_succ, plotRow, plotCols_collision _ _ _ _ _ (by decide), Bool.or_eq_true, ih,
      decide_eq_true_eq]
    constructor
    · rintro (⟨q, ⟨r, hr, h⟩, hq⟩ | ⟨c, hc8, hbit, hlit⟩)
      · exact ⟨q, ⟨r, by omega, h⟩, hq⟩
      · refine ⟨_, ⟨n, by omega, c, hc8, hbit, rfl⟩, ?_⟩
        rw [hc, decide_eq_false, Bool.xor_false] at hlit
        · exact hlit
        · rintro ⟨r, hr, d, -, -, he⟩
          have := cell_row_inj (by omega) (by omega) he
          omega
    · rintro ⟨q, ⟨r, hr, c, hc8, hbit, he⟩, hq⟩
      rcases Nat.lt_succ_iff_lt_or_eq.1 hr with hr | rfl
      · exact .inl ⟨q, ⟨r, hr, c, hc8, hbit, he⟩, hq⟩
      · refine .inr ⟨c, hc8, hbit, ?_⟩
        rw [hc, decide_eq_false, Bool.xor_false, he]
        · exact hq
        · rintro ⟨r', hr', d, -, -, he'⟩
          have := cell_row_inj (by omega) (by omega) he'
          omega

end Sys2Proof.Machine
end

