-- ==== Sys2Proof/Laws/Host.lean ====
section
/-! SUPPORT. The timer agent and the boundary between two instructions (45_timers_keypad.md R218; 40_dispatch.md
R109, R110). -/

namespace Sys2Proof.Machine

theorem countDown_toNat (n : Nat) (b : Byte) : (countDown n b).toNat = b.toNat - n := by
  unfold countDown
  have := b.isLt
  split
  case isTrue h => simp [h]
  case isFalse h =>
    rw [BitVec.toNat_ofNat, Nat.mod_eq_of_lt]
    omega

theorem timerTick_toNat (b : Byte) : (timerTick b).toNat = b.toNat - 1 := by
  unfold timerTick
  have := b.isLt
  split
  case isTrue h => simp [h]
  case isFalse h =>
    have hb : b.toNat ≠ 0 := fun h0 => h (BitVec.eq_of_toNat_eq h0)
    rw [BitVec.toNat_sub]
    simp
    omega

/-- The timer agent's field writes, said once. -/
theorem State.timerAgent_cases (s : State) (a : HostAct) :
    (s.params.timerModel = .externalCountdown ∧
      s.timerAgent a = (s.setDt (countDown a.dtSteps s.dt)).setSt (countDown a.stSteps s.st)) ∨
    (s.params.timerModel = .frozen ∧ s.timerAgent a = s) := by
  unfold State.timerAgent
  split
  case h_1 h => exact .inl ⟨h, rfl⟩
  case h_2 h => exact .inr ⟨h, rfl⟩

/-- What other agents do at a boundary changes DT, ST, the stop flag and the host's scripts, and nothing else
(R246). -/
theorem State.hostActs_frame (s : State) :
    s.hostActs =
      { s with
        dt := s.hostActs.dt
        st := s.hostActs.st
        stopRequested := s.stopRequested || s.nextAct.stop
        host := s.takeAct.host } := by
  unfold State.hostActs
  rcases State.timerAgent_cases s.takeAct s.nextAct with ⟨-, h⟩ | ⟨-, h⟩ <;> rw [h] <;>
    cases hb : s.nextAct.stop <;>
    simp [State.stopIf, State.requestStop, State.setDt, State.setSt, State.takeAct]

@[simp] theorem State.hostActs_mem (s : State) : s.hostActs.mem = s.mem := by rw [s.hostActs_frame]
@[simp] theorem State.hostActs_v (s : State) : s.hostActs.v = s.v := by rw [s.hostActs_frame]
@[simp] theorem State.hostActs_i (s : State) : s.hostActs.i = s.i := by rw [s.hostActs_frame]
@[simp] theorem State.hostActs_pc (s : State) : s.hostActs.pc = s.pc := by rw [s.hostActs_frame]
@[simp] theorem State.hostActs_sp (s : State) : s.hostActs.sp = s.sp := by rw [s.hostActs_frame]
@[simp] theorem State.hostActs_stack (s : State) : s.hostActs.stack = s.stack := by rw [s.hostActs_frame]
@[simp] theorem State.hostActs_fb (s : State) : s.hostActs.fb = s.fb := by rw [s.hostActs_frame]
@[simp] theorem State.hostActs_stopRequested (s : State) :
    s.hostActs.stopRequested = (s.stopRequested || s.nextAct.stop) := by rw [s.hostActs_frame]
@[simp] theorem State.hostActs_status (s : State) : s.hostActs.status = s.status := by rw [s.hostActs_frame]
@[simp] theorem State.hostActs_rendering (s : State) : s.hostActs.rendering = s.rendering := by
  rw [s.hostActs_frame]
@[simp] theorem State.hostActs_params (s : State) : s.hostActs.params = s.params := by rw [s.hostActs_frame]
@[simp] theorem State.hostActs_host (s : State) : s.hostActs.host = s.takeAct.host := by rw [s.hostActs_frame]
@[simp] theorem State.hostActs_frames (s : State) : s.hostActs.frames = s.frames := by rw [s.hostActs_frame]

@[simp] theorem State.hostActs_readMem (s : State) (a : Nat) : s.hostActs.readMem a = s.readMem a := by
  simp only [State.readMem, State.hostActs_mem, State.hostActs_params]

@[simp] theorem State.hostActs_reg (s : State) (r : Reg) : s.hostActs.reg r = s.reg r := by
  simp only [State.reg, State.hostActs_v]

@[simp] theorem State.hostActs_fetchWord (s : State) : s.hostActs.fetchWord = s.fetchWord := by
  simp only [State.fetchWord, State.hostActs_readMem, State.hostActs_pc]

/-- The loop's step is a call of step(), unless a stop request is seen at the boundary before it (R108, R110). -/
theorem step_eq_stepCall (s : State)
    (h : s.status = .running → s.rendering = false → s.hostActs.stopRequested = false) : step s = stepCall s := by
  unfold step loopStep stepCall
  split
  case h_1 hr =>
    cases hq : s.rendering
    · simp only [runningStep, h hr hq, Bool.false_eq_true, if_false]
    · rfl
  case h_2 => rfl
  case h_3 => rfl

/-- The timers after a boundary: the agent's steps under external_countdown, unchanged under frozen (R218). -/
theorem State.hostActs_timers (s : State) :
    (s.params.timerModel = .externalCountdown ∧ s.hostActs.dt = countDown s.nextAct.dtSteps s.dt ∧
      s.hostActs.st = countDown s.nextAct.stSteps s.st) ∨
    (s.params.timerModel = .frozen ∧ s.hostActs.dt = s.dt ∧ s.hostActs.st = s.st) := by
  unfold State.hostActs
  rcases State.timerAgent_cases s.takeAct s.nextAct with ⟨hm, h⟩ | ⟨hm, h⟩ <;> rw [h] <;>
    cases hb : s.nextAct.stop <;> simp_all [State.stopIf]

end Sys2Proof.Machine
end

