-- ==== Sys2Proof/Laws/PerInstr.lean ====
section
/-! SUPPORT. The family RowMatch of statements about every instruction as syntax: the word an instruction is encoded
as has, under its row's mask, its row's match value (30_encoding.md R77). -/

namespace Sys2Proof.Laws.RowMatch

/-- The word of `i` matches the row of R77 that `i` belongs to. -/
def Statement (i : Instr) : Prop := encode i &&& (rowOf i).mask = (rowOf i).value

theorem of_addr (h : Nibble) (nnn : Addr12) (v : Word) (hv : v.toNat = h.toNat * 4096) :
    encAddr h nnn &&& 0xF000#16 = v := by
  apply BitVec.eq_of_toNat_eq
  rw [and_familyMask_toNat, encAddr_toNat, hv]
  omega

theorem of_regByte (h : Nibble) (x : Reg) (kk : Byte) (v : Word) (hv : v.toNat = h.toNat * 4096) :
    encRegByte h x kk &&& 0xF000#16 = v := by
  apply BitVec.eq_of_toNat_eq
  rw [and_familyMask_toNat, encRegByte_toNat, hv]
  have := x.lt_sixteen
  omega

theorem of_regSub (h : Nibble) (x : Reg) (kk : Byte) (v : Word) (hv : v.toNat = h.toNat * 4096 + kk.toNat) :
    encRegByte h x kk &&& 0xF0FF#16 = v := by
  apply BitVec.eq_of_toNat_eq
  rw [and_byteMask_toNat, encRegByte_toNat, hv]
  have := x.lt_sixteen
  omega

theorem of_regReg (h : Nibble) (x y : Reg) (d : Nibble) (v : Word) (hv : v.toNat = h.toNat * 4096 + d.toNat) :
    encRegReg h x y d &&& 0xF00F#16 = v := by
  apply BitVec.eq_of_toNat_eq
  rw [and_nibbleMask_toNat, encRegReg_toNat, hv]
  have := x.lt_sixteen
  have := y.lt_sixteen
  omega

theorem of_regRegNibble (h : Nibble) (x y : Reg) (d : Nibble) (v : Word) (hv : v.toNat = h.toNat * 4096) :
    encRegReg h x y d &&& 0xF000#16 = v := by
  apply BitVec.eq_of_toNat_eq
  rw [and_familyMask_toNat, encRegReg_toNat, hv]
  have := x.lt_sixteen
  have := y.lt_sixteen
  omega

theorem cls : Statement .cls := and_wordMask _
theorem ret : Statement .ret := and_wordMask _
theorem jp (nnn : Addr12) : Statement (.jp nnn) := of_addr _ _ _ rfl
theorem call (nnn : Addr12) : Statement (.call nnn) := of_addr _ _ _ rfl
theorem seByte (x : Reg) (kk : Byte) : Statement (.seByte x kk) := of_regByte _ _ _ _ rfl
theorem sneByte (x : Reg) (kk : Byte) : Statement (.sneByte x kk) := of_regByte _ _ _ _ rfl
theorem seReg (x y : Reg) : Statement (.seReg x y) := of_regReg _ _ _ _ _ rfl
theorem ldByte (x : Reg) (kk : Byte) : Statement (.ldByte x kk) := of_regByte _ _ _ _ rfl
theorem addByte (x : Reg) (kk : Byte) : Statement (.addByte x kk) := of_regByte _ _ _ _ rfl
theorem ldReg (x y : Reg) : Statement (.ldReg x y) := of_regReg _ _ _ _ _ rfl
theorem orReg (x y : Reg) : Statement (.orReg x y) := of_regReg _ _ _ _ _ rfl
theorem andReg (x y : Reg) : Statement (.andReg x y) := of_regReg _ _ _ _ _ rfl
theorem xorReg (x y : Reg) : Statement (.xorReg x y) := of_regReg _ _ _ _ _ rfl
theorem addReg (x y : Reg) : Statement (.addReg x y) := of_regReg _ _ _ _ _ rfl
theorem sub (x y : Reg) : Statement (.sub x y) := of_regReg _ _ _ _ _ rfl
theorem shr (x y : Reg) : Statement (.shr x y) := of_regReg _ _ _ _ _ rfl
theorem subn (x y : Reg) : Statement (.subn x y) := of_regReg _ _ _ _ _ rfl
theorem shl (x y : Reg) : Statement (.shl x y) := of_regReg _ _ _ _ _ rfl
theorem sneReg (x y : Reg) : Statement (.sneReg x y) := of_regReg _ _ _ _ _ rfl
theorem ldI (nnn : Addr12) : Statement (.ldI nnn) := of_addr _ _ _ rfl
theorem jpV0 (nnn : Addr12) : Statement (.jpV0 nnn) := of_addr _ _ _ rfl
theorem rnd (x : Reg) (kk : Byte) : Statement (.rnd x kk) := of_regByte _ _ _ _ rfl
theorem drw (x y : Reg) (n : Nibble) : Statement (.drw x y n) := of_regRegNibble _ _ _ _ _ rfl
theorem skp (x : Reg) : Statement (.skp x) := of_regSub _ _ _ _ rfl
theorem sknp (x : Reg) : Statement (.sknp x) := of_regSub _ _ _ _ rfl
theorem ldVxDt (x : Reg) : Statement (.ldVxDt x) := of_regSub _ _ _ _ rfl
theorem ldVxK (x : Reg) : Statement (.ldVxK x) := of_regSub _ _ _ _ rfl
theorem ldDtVx (x : Reg) : Statement (.ldDtVx x) := of_regSub _ _ _ _ rfl
theorem ldStVx (x : Reg) : Statement (.ldStVx x) := of_regSub _ _ _ _ rfl
theorem addI (x : Reg) : Statement (.addI x) := of_regSub _ _ _ _ rfl
theorem ldF (x : Reg) : Statement (.ldF x) := of_regSub _ _ _ _ rfl
theorem ldB (x : Reg) : Statement (.ldB x) := of_regSub _ _ _ _ rfl
theorem storeRegs (x : Reg) : Statement (.storeRegs x) := of_regSub _ _ _ _ rfl
theorem loadRegs (x : Reg) : Statement (.loadRegs x) := of_regSub _ _ _ _ rfl

end Sys2Proof.Laws.RowMatch
end

