-- ==== Sys2Proof/Tests/Slice0.lean ====
section
/-! SUPPORT. The model's own tests: well-formedness, the decoding of every instruction from its bits, one or two single
steps per instruction from the vectors of 95_test_vectors.md, construction and load, and a witness for the hypotheses of
every statement in Certificates/Slice0/Obligations.lean. Expected values come from the spec, never from the model. -/

namespace Sys2Proof.Tests

open Sys2Proof Sys2Proof.Machine

/-! ## Helpers -/

/-- The outcome is a next state of which `p` holds. -/
def nextIs (o : Host.Outcome State Fault Refusal) (p : State → Bool) : Bool :=
  match o with
  | .next t => p t
  | .fault _ => false
  | .refused _ => false

/-- The state after reset with these general registers. -/
def regs (l : List (Reg × Byte)) : State := l.foldl (fun s p => s.setReg p.1 p.2) State.reset

/-- A state with these bytes of memory written. -/
def bytes (l : List (Nat × Byte)) (s : State) : State := l.foldl (fun s p => s.writeMem p.1 p.2) s

/-- A state whose Display answers these, in this order. -/
def renders (l : List RenderAnswer) (s : State) : State := { s with host := { s.host with renders := l } }

/-- A state whose Keypad has answered getKey so. -/
def polled (k : KeyPoll) (s : State) : State := { s with host := { s.host with polls := [k] } }

/-- A state whose Keypad answers keyDown so. -/
def keyed (b : Bool) (s : State) : State := { s with host := { s.host with keyDowns := [b] } }

/-- A state whose random bytes are these. -/
def random (l : List Byte) (s : State) : State := { s with host := { s.host with rng := l } }

/-- A state in which other agents do this at the next boundary. -/
def acted (a : HostAct) (s : State) : State := { s with host := { s.host with acts := [a] } }

/-- A state built with other construction parameters. -/
def built (p : Params) (s : State) : State := { s with params := p }

/-- The default parameters with KEY_SKIP_IMPLEMENTED false. -/
def noKeySkip : Params := { defaultParams with keySkip := false }

/-- The least memory and the least stack that fit. -/
def smallest : Params := { defaultParams with memSize := 0x200, stackSize := 1 }

/-- A core in its `n`-th nested subroutine, each slot above slot 0 holding 0x204. -/
def nested (n : Byte) : State := { State.reset with sp := n, stack := 0 :: List.replicate 15 0x204 }

/-- The buffer with these cells lit. -/
def lit (l : List Nat) : Framebuffer := l.foldl (fun f p => f ^^^ BitVec.twoPow 2048 p) 0

/-! ## Well-formedness: the one check, KEY_SKIP_IMPLEMENTED (30_encoding.md R82) -/

theorem test_illFormed_skp : WellFormed false (.skp 3) = false := by decide
theorem test_illFormed_sknp : WellFormed false (.sknp 0xF) = false := by decide
theorem test_wellFormed_skp : WellFormed true (.skp 3) = true := by decide
theorem test_wellFormed_sknp : WellFormed true (.sknp 0xF) = true := by decide
theorem test_wellFormed_cls : WellFormed false .cls = true := by decide

/-! ## Decoding: every row of R77, its word written out as bits (30_encoding.md R72, R73, R77) -/

theorem test_decode_cls : decodeWord true 0b0000000011100000#16 = .ok .cls := by decide
theorem test_decode_ret : decodeWord true 0b0000000011101110#16 = .ok .ret := by decide
theorem test_decode_jp : decodeWord true 0b0001101010111100#16 = .ok (.jp 0xABC) := by decide
theorem test_decode_call : decodeWord true 0b0010001100000100#16 = .ok (.call 0x304) := by decide
theorem test_decode_seByte : decodeWord true 0b0011000100100011#16 = .ok (.seByte 1 0x23) := by decide
theorem test_decode_sneByte : decodeWord true 0b0100000100100011#16 = .ok (.sneByte 1 0x23) := by decide
theorem test_decode_seReg : decodeWord true 0b0101001000110000#16 = .ok (.seReg 2 3) := by decide
theorem test_decode_ldByte : decodeWord true 0b0110101001111011#16 = .ok (.ldByte 0xA 0x7B) := by decide
theorem test_decode_addByte : decodeWord true 0b0111000011111111#16 = .ok (.addByte 0 0xFF) := by decide
theorem test_decode_ldReg : decodeWord true 0b1000000100110000#16 = .ok (.ldReg 1 3) := by decide
theorem test_decode_orReg : decodeWord true 0b1000000100100001#16 = .ok (.orReg 1 2) := by decide
theorem test_decode_andReg : decodeWord true 0b1000000100100010#16 = .ok (.andReg 1 2) := by decide
theorem test_decode_xorReg : decodeWord true 0b1000000100100011#16 = .ok (.xorReg 1 2) := by decide
theorem test_decode_addReg : decodeWord true 0b1000101010110100#16 = .ok (.addReg 0xA 0xB) := by decide
theorem test_decode_sub : decodeWord true 0b1000101010110101#16 = .ok (.sub 0xA 0xB) := by decide
theorem test_decode_shr : decodeWord true 0b1000000101110110#16 = .ok (.shr 1 7) := by decide
theorem test_decode_subn : decodeWord true 0b1000000100100111#16 = .ok (.subn 1 2) := by decide
theorem test_decode_shl : decodeWord true 0b1000000111111110#16 = .ok (.shl 1 0xF) := by decide
theorem test_decode_sneReg : decodeWord true 0b1001001000110000#16 = .ok (.sneReg 2 3) := by decide
theorem test_decode_ldI : decodeWord true 0b1010001000010110#16 = .ok (.ldI 0x216) := by decide
theorem test_decode_jpV0 : decodeWord true 0b1011111111111111#16 = .ok (.jpV0 0xFFF) := by decide
theorem test_decode_rnd : decodeWord true 0b1100001100001111#16 = .ok (.rnd 3 0x0F) := by decide
theorem test_decode_drw : decodeWord true 0b1101000100100101#16 = .ok (.drw 1 2 5) := by decide
theorem test_decode_skp : decodeWord true 0b1110000110011110#16 = .ok (.skp 1) := by decide
theorem test_decode_sknp : decodeWord true 0b1110000110100001#16 = .ok (.sknp 1) := by decide
theorem test_decode_ldVxDt : decodeWord true 0b1111001100000111#16 = .ok (.ldVxDt 3) := by decide
theorem test_decode_ldVxK : decodeWord true 0b1111010100001010#16 = .ok (.ldVxK 5) := by decide
theorem test_decode_ldDtVx : decodeWord true 0b1111001100010101#16 = .ok (.ldDtVx 3) := by decide
theorem test_decode_ldStVx : decodeWord true 0b1111001100011000#16 = .ok (.ldStVx 3) := by decide
theorem test_decode_addI : decodeWord true 0b1111001000011110#16 = .ok (.addI 2) := by decide
theorem test_decode_ldF : decodeWord true 0b1111000000101001#16 = .ok (.ldF 0) := by decide
theorem test_decode_ldB : decodeWord true 0b1111001100110011#16 = .ok (.ldB 3) := by decide
theorem test_decode_storeRegs : decodeWord true 0b1111111101010101#16 = .ok (.storeRegs 0xF) := by decide
theorem test_decode_loadRegs : decodeWord true 0b1111001001100101#16 = .ok (.loadRegs 2) := by decide

/-- The reserved words of L2-1 rows 5 to 8 are unknown, each carrying its own word (R80). -/
theorem test_decode_reserved :
    ([0x0000#16, 0x00E1#16, 0x0123#16, 0x00FF#16, 0x5121#16, 0x8008#16, 0x800F#16, 0x900F#16, 0xE000#16, 0xE19F#16,
      0xF000#16, 0xF030#16, 0xF075#16].all fun op => decodeWord true op = .error (.unknownOpcode op)) = true := by
  decide

/-- L2-1 row 10: without KEY_SKIP_IMPLEMENTED the key skips are unknown words (R82). -/
theorem test_decode_noKeySkip : decodeWord false 0xE19E#16 = .error (.unknownOpcode 0xE19E#16) := by decide

/-- The byte at the lower address is the high byte (R58), and a lone byte is no word (R70). -/
theorem test_decode_bytes : decodeBytes true [0x12, 0x34, 0x56] = .ok (.jp 0x234, [0x56]) := by decide
theorem test_decode_truncated : decodeBytes true [0x12] = .error .truncated := by decide

/-- Table words are numbered from the least significant bit; a reserved word gives none. -/
theorem test_decodeTableWord : decodeTableWord 16 0x1234 = some (.jp 0x234) := by decide
theorem test_decodeTableWord_reserved : decodeTableWord 16 0x5121 = none := by decide

/-- The words of P3 at 0x204 and 0x216 (95_test_vectors.md) are what the encoder writes. -/
theorem test_encode : encode (.addReg 0xA 0xB) = 0x8AB4#16 ∧ encode (.ldI 0x216) = 0xA216#16 := by decide

/-! ## Control flow (L1-3, L1-4, L2-2) -/

/-- L2-2 row 7: the saved address plus 2 wraps, SP falls, the slot keeps its value. -/
theorem test_ret_wraps :
    nextIs (exec .ret { State.reset with sp := 1, stack := [0, 0xFFFE] })
      (fun t => t.pc = 0x0000 && t.sp = 0 && t.stack = [0, 0xFFFE]) = true := by decide

/-- L2-2 row 4: RET with SP = 0. -/
theorem test_ret_underflow :
    nextIs (exec .ret State.reset)
      (fun t => t.status = .halted (.stackUnderflow 0x200) && t.pc = 0x200 && t.sp = 0) = true := by decide

/-- L2-2 row 1. -/
theorem test_jp : nextIs (exec (.jp 0xABC) State.reset) (fun t => t.pc = 0xABC) = true := by decide

/-- L1-3: the CALL's own address goes to slot 1, and slot 0 is never written. -/
theorem test_call_pushes_itself :
    nextIs (exec (.call 0x100) { State.reset with pc := 0x100 })
      (fun t => t.pc = 0x100 && t.sp = 1 && t.stack[0]? = some 0 && t.stack[1]? = some 0x100) = true := by decide

/-- L2-2 rows 5 and 6: SP = 14 still fits, SP = 15 overflows with nothing changed. -/
theorem test_call_at_the_limit :
    nextIs (exec (.call 0x400) (nested 14))
      (fun t => t.sp = 15 && t.stack[15]? = some 0x200 && t.pc = 0x400) = true ∧
    nextIs (exec (.call 0x400) (nested 15))
      (fun t => t.status = .halted (.stackOverflow 0x200) && t.sp = 15 && t.pc = 0x200 &&
        t.stack = (nested 15).stack) = true := by decide

/-- L1-4. -/
theorem test_seByte :
    nextIs (exec (.seByte 1 0x23) (regs [(1, 0x23)])) (fun t => t.pc = 0x204) = true ∧
    nextIs (exec (.seByte 1 0x23) (regs [(1, 0x03)])) (fun t => t.pc = 0x202) = true := by decide

/-- L2-2 row 18: a skip wraps at 2^16. -/
theorem test_seByte_wraps :
    nextIs (exec (.seByte 1 0x23) { regs [(1, 0x23)] with pc := 0xFFFC }) (fun t => t.pc = 0x0000) = true := by
  decide

/-- L2-2 rows 8 and 9. -/
theorem test_sneByte :
    nextIs (exec (.sneByte 1 0x23) (regs [(1, 0x00)])) (fun t => t.pc = 0x204) = true ∧
    nextIs (exec (.sneByte 1 0x23) (regs [(1, 0x23)])) (fun t => t.pc = 0x202) = true := by decide

/-- L2-2 rows 10 and 11. -/
theorem test_seReg :
    nextIs (exec (.seReg 2 3) (regs [(2, 0x7F), (3, 0x7F)])) (fun t => t.pc = 0x204) = true ∧
    nextIs (exec (.seReg 2 3) (regs [(2, 0x7F), (3, 0x7E)])) (fun t => t.pc = 0x202) = true := by decide

/-- L2-2 rows 13 and 14. -/
theorem test_sneReg :
    nextIs (exec (.sneReg 2 3) (regs [(2, 0x01), (3, 0x02)])) (fun t => t.pc = 0x204) = true ∧
    nextIs (exec (.sneReg 2 2) (regs [(2, 0x01)])) (fun t => t.pc = 0x202) = true := by decide

/-- L2-2 row 16: the target may lie beyond memory. -/
theorem test_jpV0_beyond :
    nextIs (exec (.jpV0 0xFFF) (regs [(0, 0xFF)])) (fun t => t.pc = 0x10FE) = true := by decide

/-! ## Register loads and arithmetic (L1-1, L1-2, L2-3) -/

/-- L2-2 row 19: PC wraps at 2^16. -/
theorem test_ldByte :
    nextIs (exec (.ldByte 0xA 0x7B) { State.reset with pc := 0xFFFE })
      (fun t => t.reg 0xA = 0x7B && t.pc = 0x0000) = true := by decide

/-- L2-3 row 3: no carry is written. -/
theorem test_addByte :
    nextIs (exec (.addByte 0 0x01) (regs [(0, 0xFF), (0xF, 0x55)]))
      (fun t => t.reg 0 = 0x00 && t.reg 0xF = 0x55) = true := by decide

/-- L2-3 row 5. -/
theorem test_ldReg : nextIs (exec (.ldReg 1 3) (regs [(3, 0x42)])) (fun t => t.reg 1 = 0x42) = true := by decide

/-- L2-3 row 6. -/
theorem test_orReg :
    nextIs (exec (.orReg 1 2) (regs [(1, 0xF0), (2, 0x0F), (0xF, 0x77)]))
      (fun t => t.reg 1 = 0xFF && t.reg 0xF = 0x77) = true := by decide

/-- L2-3 row 7. -/
theorem test_andReg :
    nextIs (exec (.andReg 1 2) (regs [(1, 0xF0), (2, 0x3C), (0xF, 0x77)]))
      (fun t => t.reg 1 = 0x30 && t.reg 0xF = 0x77) = true := by decide

/-- L2-3 row 8. -/
theorem test_xorReg :
    nextIs (exec (.xorReg 1 2) (regs [(1, 0xFF), (2, 0x0F), (0xF, 0x77)]))
      (fun t => t.reg 1 = 0xF0 && t.reg 0xF = 0x77) = true := by decide

/-- L2-3 row 9. -/
theorem test_xorReg_self : nextIs (exec (.xorReg 1 1) (regs [(1, 0x5A)])) (fun t => t.reg 1 = 0x00) = true := by
  decide

/-- L1-1, its fifth row, and L2-3 row 10, where x = y. -/
theorem test_addReg :
    nextIs (exec (.addReg 1 2) (regs [(1, 0xFF), (2, 0xFF)]))
      (fun t => t.reg 1 = 0xFE && t.reg 0xF = 1) = true ∧
    nextIs (exec (.addReg 1 1) (regs [(1, 0x80)])) (fun t => t.reg 1 = 0x00 && t.reg 0xF = 1) = true := by decide

/-- L2-3 rows 11 and 12: VF as destination, and VF as source. -/
theorem test_addReg_flag :
    nextIs (exec (.addReg 0xF 1) (regs [(0xF, 0xFF), (1, 0x01)])) (fun t => t.reg 0xF = 1) = true ∧
    nextIs (exec (.addReg 1 0xF) (regs [(1, 0x10), (0xF, 0xF0)]))
      (fun t => t.reg 1 = 0x00 && t.reg 0xF = 1) = true := by decide

/-- L1-2: the strict tie-break, and a borrow. -/
theorem test_sub :
    nextIs (exec (.sub 1 2) (regs [(1, 0x03), (2, 0x03)])) (fun t => t.reg 1 = 0x00 && t.reg 0xF = 0) = true ∧
    nextIs (exec (.sub 1 2) (regs [(1, 0x03), (2, 0x05)])) (fun t => t.reg 1 = 0xFE && t.reg 0xF = 0) = true := by
  decide

/-- L1-2, its first row, and L2-3 row 13. -/
theorem test_sub_flag :
    nextIs (exec (.sub 1 2) (regs [(1, 0x05), (2, 0x03)])) (fun t => t.reg 1 = 0x02 && t.reg 0xF = 1) = true ∧
    nextIs (exec (.sub 0xF 1) (regs [(0xF, 0x01), (1, 0x02)])) (fun t => t.reg 0xF = 0) = true := by decide

/-- L2-3 row 16: y is ignored. -/
theorem test_shr :
    nextIs (exec (.shr 1 7) (regs [(1, 0x05), (7, 0xAA)]))
      (fun t => t.reg 1 = 0x02 && t.reg 0xF = 1 && t.reg 7 = 0xAA) = true := by decide

/-- L2-3 row 18. -/
theorem test_shr_flag : nextIs (exec (.shr 0xF 0) (regs [(0xF, 0x03)])) (fun t => t.reg 0xF = 1) = true := by decide

/-- L2-3 rows 19 and 20. -/
theorem test_subn :
    nextIs (exec (.subn 1 2) (regs [(1, 0x03), (2, 0x05)])) (fun t => t.reg 1 = 0x02 && t.reg 0xF = 1) = true ∧
    nextIs (exec (.subn 1 2) (regs [(1, 0x05), (2, 0x03)])) (fun t => t.reg 1 = 0xFE && t.reg 0xF = 0) = true := by
  decide

/-- L2-3 row 21: the strict tie-break. -/
theorem test_subn_tie :
    nextIs (exec (.subn 1 2) (regs [(1, 0x09), (2, 0x09)]))
      (fun t => t.reg 1 = 0x00 && t.reg 0xF = 0) = true := by decide

/-- L2-3 row 22. -/
theorem test_shl :
    nextIs (exec (.shl 1 0) (regs [(1, 0x81)])) (fun t => t.reg 1 = 0x02 && t.reg 0xF = 1) = true := by decide

/-- L2-3 rows 23 and 24. -/
theorem test_shl_flag :
    nextIs (exec (.shl 1 0) (regs [(1, 0x7F)])) (fun t => t.reg 1 = 0xFE && t.reg 0xF = 0) = true ∧
    nextIs (exec (.shl 0xF 0xF) (regs [(0xF, 0x80)])) (fun t => t.reg 0xF = 1) = true := by decide

/-- L2-3 row 25. -/
theorem test_rnd : nextIs (exec (.rnd 3 0x0F) (random [0xA5] State.reset)) (fun t => t.reg 3 = 0x05) = true := by
  decide

/-- L2-3 row 26: with a mask of 0 any random byte gives 0. -/
theorem test_rnd_any (s : State) : ∃ t, exec (.rnd 3 0x00) s = .next t ∧ t.reg 3 = 0 := by
  refine ⟨_, rfl, ?_⟩
  simp [State.reg, State.advance, State.setPc, State.setReg]

/-! ## The address register and memory transfers (L1-7 to L1-9, L2-4) -/

/-- L2-4 row 1. -/
theorem test_ldI : nextIs (exec (.ldI 0xFFF) State.reset) (fun t => t.i = 0x0FFF && t.pc = 0x202) = true := by decide

/-- L2-4 row 2: I may leave the 12-bit range and VF is not written. -/
theorem test_addI :
    nextIs (exec (.addI 2) { regs [(2, 0x02), (0xF, 0x33)] with i := 0x0FFF })
      (fun t => t.i = 0x1001 && t.reg 0xF = 0x33) = true := by decide

/-- L2-4 row 3. -/
theorem test_addI_wraps :
    nextIs (exec (.addI 2) { regs [(2, 0x01)] with i := 0xFFFF }) (fun t => t.i = 0x0000) = true := by decide

/-- L1-7, its last column, and L2-4 row 5: no masking to a digit. -/
theorem test_ldF :
    nextIs (exec (.ldF 0) (regs [(0, 0x0F)])) (fun t => t.i = 0x04B) = true ∧
    nextIs (exec (.ldF 0) (regs [(0, 0xFF)])) (fun t => t.i = 0x4FB) = true := by decide

/-- L2-4 row 7. -/
theorem test_ldB :
    nextIs (exec (.ldB 3) { regs [(3, 0x7B)] with i := 0x300 })
      (fun t => t.readMem 0x300 = 1 && t.readMem 0x301 = 2 && t.readMem 0x302 = 3 && t.i = 0x300) = true := by decide

/-- L2-4 row 9: the third digit wraps round and overwrites a byte of the font. -/
theorem test_ldB_wraps :
    nextIs (exec (.ldB 3) { regs [(3, 0xFF)] with i := 0x0FFE })
      (fun t => t.readMem 0xFFE = 2 && t.readMem 0xFFF = 5 && t.readMem 0x000 = 5) = true := by decide

/-- L2-4 row 10: V0 alone is stored. -/
theorem test_storeRegs_one :
    nextIs (exec (.storeRegs 0) { regs [(0, 0x11), (1, 0x22)] with i := 0x300 })
      (fun t => t.readMem 0x300 = 0x11 && t.readMem 0x301 = 0x00) = true := by decide

/-- L2-4 row 11, its first and last bytes: sixteen registers stored across the top of memory. -/
theorem test_storeRegs_wraps :
    nextIs (exec (.storeRegs 0xF) { regs [(0, 1), (7, 8), (8, 9), (0xF, 16)] with i := 0x0FF8 })
      (fun t => t.readMem 0xFF8 = 1 && t.readMem 0xFFF = 8 && t.readMem 0x000 = 9 && t.readMem 0x007 = 16 &&
        t.i = 0x0FF8) = true := by decide

/-- L2-4 row 12: the register above x is not loaded. -/
theorem test_loadRegs :
    nextIs (exec (.loadRegs 2) (bytes [(0x300, 1), (0x301, 2), (0x302, 3), (0x303, 4)]
        { regs [(3, 0x77)] with i := 0x300 }))
      (fun t => t.reg 0 = 1 && t.reg 1 = 2 && t.reg 2 = 3 && t.reg 3 = 0x77 && t.i = 0x300) = true := by decide

/-- L2-4 row 13: VF is loaded as data. -/
theorem test_loadRegs_flag :
    nextIs (exec (.loadRegs 0xF) (bytes [(0x30F, 0x9C)] { State.reset with i := 0x300 }))
      (fun t => t.reg 0xF = 0x9C) = true := by decide

/-! ## Graphics (L1-5, L1-6, L2-5) -/

/-- L2-5 row 1. -/
theorem test_cls :
    nextIs (exec .cls (renders [.ok] { regs [(0xF, 0x42)] with fb := lit [0, 77, 2047] }))
      (fun t => t.fb = 0 && t.reg 0xF = 0x42 && t.frames = [0] && t.pc = 0x202) = true := by decide +kernel

/-- L2-5 row 9. -/
theorem test_cls_error :
    nextIs (exec .cls (renders [.error 7] { State.reset with fb := lit [5] }))
      (fun t => t.fb = 0 && t.pc = 0x200 && t.status = .halted (.renderFailure 7)) = true := by decide +kernel

/-- L2-5 row 2: a row wraps round the right edge. -/
theorem test_drw_wraps :
    nextIs (exec (.drw 0 1 1) (renders [.ok] (bytes [(0x500, 0xFF)] { regs [(0, 60)] with i := 0x500 })))
      (fun t => t.fb = lit [60, 61, 62, 63, 0, 1, 2, 3] && t.reg 0xF = 0 && t.pc = 0x202) = true := by decide +kernel

/-- L2-5 rows 5 and 7: a collision, and VF read as an origin before it is written. -/
theorem test_drw_flag :
    nextIs (exec (.drw 0 1 1) (renders [.ok] (bytes [(0x500, 0x80)] { State.reset with i := 0x500, fb := lit [0] })))
      (fun t => t.fb = 0 && t.reg 0xF = 1) = true ∧
    nextIs (exec (.drw 0xF 0 1) (renders [.ok] (bytes [(0x500, 0x80)] { regs [(0xF, 5)] with i := 0x500 })))
      (fun t => t.fb = lit [5] && t.reg 0xF = 0) = true := by decide +kernel

/-! ## Timers and keypad (L2-6) -/

/-- L2-6 row 2. -/
theorem test_ldVxDt : nextIs (exec (.ldVxDt 3) { State.reset with dt := 0x3C }) (fun t => t.reg 3 = 0x3C) = true := by
  decide

/-- L2-6 row 1. -/
theorem test_ldDtVx : nextIs (exec (.ldDtVx 3) (regs [(3, 0x3C)])) (fun t => t.dt = 0x3C && t.st = 0) = true := by decide

/-- L2-6 row 4. -/
theorem test_ldStVx : nextIs (exec (.ldStVx 3) (regs [(3, 0x05)])) (fun t => t.st = 0x05 && t.dt = 0) = true := by decide

/-- L2-6 rows 6 and 7. -/
theorem test_ldVxK :
    nextIs (exec (.ldVxK 5) (polled (.key 7) State.reset)) (fun t => t.reg 5 = 7 && t.pc = 0x202) = true ∧
    nextIs (exec (.ldVxK 5) (polled .cancel State.reset))
      (fun t => t.reg 5 = 0 && t.pc = 0x200 && t.status = .halted .cancellation) = true := by decide

/-- L2-6 rows 8 and 9. -/
theorem test_ldVxK_errors :
    nextIs (exec (.ldVxK 5) (polled (.error 3) State.reset))
      (fun t => t.pc = 0x200 && t.status = .halted (.keypadFailure (.backend 3))) = true ∧
    nextIs (exec (.ldVxK 5) (polled (.key 0x10) State.reset))
      (fun t => t.reg 5 = 0 && t.pc = 0x200 && t.status = .halted (.keypadFailure (.badKeyCode 0x10))) = true := by
  decide

/-- L2-6 rows 10 and 11. -/
theorem test_skp :
    nextIs (exec (.skp 1) (keyed true (regs [(1, 4)]))) (fun t => t.pc = 0x204) = true ∧
    nextIs (exec (.skp 1) (keyed false (regs [(1, 4)]))) (fun t => t.pc = 0x202) = true := by decide

/-- L2-6 rows 12 and 13. -/
theorem test_sknp :
    nextIs (exec (.sknp 1) (keyed false (regs [(1, 4)]))) (fun t => t.pc = 0x204) = true ∧
    nextIs (exec (.sknp 1) (keyed true (regs [(1, 4)]))) (fun t => t.pc = 0x202) = true := by decide

/-! ## The loop (L2-1) -/

/-- L2-1 row 2: PC at the top of memory, the low byte of the word from address 0. -/
theorem test_step_fetch_wraps :
    nextIs (step (bytes [(0xFFF, 0x60)] { State.reset with pc := 0x0FFF }))
      (fun t => t.reg 0 = 0xF0 && t.pc = 0x1001) = true := by decide

/-- L2-1 row 4: an odd PC. -/
theorem test_step_odd_pc :
    nextIs (step (bytes [(0x201, 0x6A), (0x202, 0x7B)] { State.reset with pc := 0x201 }))
      (fun t => t.reg 0xA = 0x7B && t.pc = 0x203) = true := by decide

/-- L2-1 row 5 and L2-7 row 4: memory after construction holds no program. -/
theorem test_step_unknown :
    nextIs (step State.reset) (fun t => t.status = .halted (.unknownOpcode 0x0000) && t.pc = 0x200) = true := by decide

/-- L2-1 row 9, the flag set before the step, and set by the host at the boundary. -/
theorem test_step_stop :
    nextIs (step State.reset.requestStop) (fun t => t.status = .halted .cancellation && t.pc = 0x200) = true ∧
    nextIs (step (acted ⟨true, 0, 0⟩ State.reset)) (fun t => t.status = .halted .cancellation) = true := by decide

/-- L2-1 row 10: the Keypad is not asked. -/
theorem test_step_noKeySkip :
    nextIs (step (keyed true (built noKeySkip (State.reset.withFetchWord 16 0xE19E))))
      (fun t => t.status = .halted (.unknownOpcode 0xE19E) && t.pc = 0x200 && t.host.keyDowns = [true]) = true := by
  decide

/-- L2-6 rows 3 and 5: the agent may step first, and never below 0. -/
theorem test_step_timer :
    nextIs (step (acted ⟨false, 2, 9⟩ ({ State.reset with dt := 5, st := 3 }.withFetchWord 16 0xF307)))
      (fun t => t.reg 3 = 3 && t.dt = 3 && t.st = 0) = true := by decide

/-- 45_timers_keypad.md R215: a waiting core looks at the Keypad again although stop was requested (R110). -/
theorem test_step_waiting :
    nextIs (step (polled (.key 0xF) { State.reset with status := .waitingForKey 5, stopRequested := true }))
      (fun t => t.reg 5 = 0xF && t.pc = 0x202 && t.status = .running) = true := by decide

/-- A halted core is refused (10_state.md R36). -/
theorem test_step_halted : step { State.reset with status := .halted .cancellation } = .refused .haltedCore := rfl

/-- 40_dispatch.md R107: what step() reports. -/
theorem test_report :
    stepReport State.reset = some (0x0000#16, .error (.unknownOpcode 0x0000)) ∧
    stepReport (State.reset.withFetchWord 16 0x1ABC) = some (0x1ABC#16, .ok) := by decide

/-- 45_timers_keypad.md R218: the agent may step in the tick wait of a call of step() too, whatever the stop flag says. -/
theorem test_stepCall_timer :
    nextIs (stepCall (acted ⟨true, 2, 9⟩ ({ State.reset with dt := 5, st := 3 }.withFetchWord 16 0xF307)))
      (fun t => t.reg 3 = 3 && t.dt = 3 && t.st = 0 && t.pc = 0x202) = true := by decide

/-- 40_dispatch.md R107: the call of step() that waited in LD V5, K returns ok once the Keypad answers. -/
theorem test_report_waited :
    stepReport (polled (.key 7) { bytes [(0x200, 0xF5), (0x201, 0x0A)] State.reset with status := .waitingForKey 5 }) =
      some (0xF50A#16, .ok) := by decide

/-- 60_exceptions.md R246, R247: a Display with no answer holds the core at its CLS, even with a stop requested; its
answer then lets the instruction end, and one snapshot was handed over. -/
theorem test_step_rendering :
    nextIs (step ((renders [.pending, .pending, .ok] State.reset).withFetchWord 16 0x00E0))
      (fun t => t.rendering && t.pc = 0x200 && t.status = .running && t.frames = [0] &&
        nextIs (step t.requestStop)
          (fun u => u.rendering && u.pc = 0x200 && u.status = .running && u.frames = [0] &&
            nextIs (step u) (fun v => !v.rendering && v.pc = 0x202 && v.frames = [0]))) = true := by decide +kernel

/-- A word placed at PC is the next one run, at the top of memory too. -/
theorem test_place :
    nextIs (step ({ State.reset with pc := 0xFFF }.withFetchWord 16 0x6A7B)) (fun t => t.reg 0xA = 0x7B) = true := by
  decide

/-- P1's first two instructions, as a run of two steps after a load (40_dispatch.md R108). -/
theorem test_run :
    (match State.reset.load (some [0x60, 0x05, 0x61, 0x07]) with
      | .ok (n, s) => match runLoop 2 s with
        | .underWay t => n = 4 && t.reg 0 = 5 && t.reg 1 = 7 && t.pc = 0x204
        | _ => false
      | .error _ => false) = true := by decide

/-! ## Construction and load (L2-7) -/

/-- Rows 1 and 2. -/
theorem test_construct :
    (match construct 0 defaultParams with
      | .ok _ => false
      | .error o => o = .configurationError 0) = true ∧
    (match construct (-5) defaultParams with
      | .ok _ => false
      | .error o => o = .configurationError (-5)) = true ∧
    (match construct 1 defaultParams with
      | .ok s => s.pc = 0x200 && s.mem = []
      | .error _ => false) = true := by decide +kernel

/-- Row 2: one byte too many. -/
theorem test_load_too_long :
    (match State.reset.load (some (List.replicate 3585 0x12)) with
      | .ok _ => false
      | .error o => o = .loadFailure (.outOfMemory 3585)) = true := by decide +kernel

/-- Rows 2 to 4 with 16 bytes of program area in place of 3584: a full load reaches the top of memory, one byte more
fails, and an empty load is allowed. -/
theorem test_load_full :
    (match (built { defaultParams with memSize := 0x210 } State.reset).load (some (List.replicate 16 0x12)) with
      | .ok (n, s) => n = 16 && s.readMem 0x1FF = 0 && s.readMem 0x200 = 0x12 && s.readMem 0x20F = 0x12
      | .error _ => false) = true ∧
    (match (built { defaultParams with memSize := 0x210 } State.reset).load (some (List.replicate 17 0x12)) with
      | .ok _ => false
      | .error o => o = .loadFailure (.outOfMemory 17)) = true ∧
    (match State.reset.load (some []) with
      | .ok (n, s) => n = 0 && s.mem = []
      | .error _ => false) = true := by decide +kernel

/-- Row 5: the first and the last glyph, and zero after the font. -/
theorem test_font :
    (List.range 5).map State.reset.readMem = [0xF0, 0x90, 0x90, 0x90, 0xF0] ∧
    (List.range 5).map (fun k => State.reset.readMem (0x04B + k)) = [0xF0, 0x80, 0xF0, 0x80, 0x80] ∧
    State.reset.readMem 0x050 = 0 ∧ State.reset.readMem 0xFFF = 0 := by decide

/-! ## Witnesses: every statement's hypotheses can be met, clause by clause -/

/-- A core in a subroutine, with bytes in memory, that meets the invariant. -/
def busy : State := bytes [(0x200, 0x22), (0x201, 0x10), (0x300, 0x7B)] (nested 14)

theorem test_busy_inv : Inv busy := ⟨by decide, by decide, by decide, by decide, by decide⟩
theorem test_busy_live : Live busy := fun o h => by cases h
theorem test_busy_steps : nextIs (step busy) (fun t => t.sp = 15) = true := by decide

/-- The least core that fits meets the invariant at its only slot. -/
theorem test_smallest_inv : smallest.wf ∧ Inv (built smallest { State.reset with stack := [0] }) :=
  ⟨by decide, by decide, by decide, by decide, by decide, by decide⟩

/-- A core waiting at its LD V5, K. -/
def waiting : State := { bytes [(0x200, 0xF5), (0x201, 0x0A)] State.reset with status := .waitingForKey 5 }

/-- A core whose DRW V0, V1, 5 waits for the Display, which answers so at the next look. -/
def drawing (a : RenderAnswer) : State :=
  renders [a] { bytes [(0x200, 0xD0), (0x201, 0x15)] State.reset with rendering := true }

/-- DecodeReadsBackEveryEncoding, ByteStreamReadsBackTheInstruction, EncodeWritesBackEveryDecoding: see also the
decode tests above. -/
theorem test_witness_encodings :
    WellFormed true (.skp 0xF) = true ∧ WellFormed false (.drw 0xF 0xF 0xF) = true ∧
      decodeWord false 0xDFFF#16 = .ok (.drw 0xF 0xF 0xF) := by decide

/-- DecoderFollowsTheOpcodeMap, its three clauses. -/
theorem test_witness_opcodeMap :
    decodeWord true 0xE19E#16 = .ok (.skp 1) ∧
    (⟨0xE09E#16, 0xF0FF#16⟩ ∈ opcodeMap true ∧ 0xE19E#16 &&& 0xF0FF#16 = 0xE09E#16) ∧
    (∀ row ∈ opcodeMap false, 0xE19E#16 &&& row.mask ≠ row.value) ∧
    (∀ row ∈ opcodeMap true, 0x0000#16 &&& row.mask ≠ row.value) := by decide

/-- EqualReadsMakeEqualMemories. -/
theorem test_witness_memories :
    Memory.wf defaultParams [(0x200, 0x12), (0xFFF, 0x01)] ∧
    ∀ a, a < defaultParams.memSize →
      memGet defaultParams [(0x200, 0x12), (0xFFF, 0x01)] a = memGet defaultParams [(0x200, 0x12), (0xFFF, 0x01)] a :=
  ⟨by decide, fun _ _ => rfl⟩

/-- The canonical form refuses a descending list, a listed background byte and an address outside memory. -/
theorem test_memory_ill_formed :
    ¬ Memory.wf defaultParams [(0x201, 0x12), (0x200, 0x01)] ∧ ¬ Memory.wf defaultParams [(0x000, 0xF0)] ∧
    ¬ Memory.wf defaultParams [(0x1000, 0x01)] := by decide

/-- FetchIsBigEndianModuloMemory: two PCs equal modulo the size of memory. -/
theorem test_witness_fetch :
    SameMemory busy { busy with pc := 0x1FFF } ∧
      (0x1FFF : Word).toNat % busy.params.memSize = (0x0FFF : Word).toNat % busy.params.memSize :=
  ⟨fun _ => rfl, by decide⟩

/-- StoreIsSeenByTheNextFetch, each clause at the top of memory. -/
theorem test_witness_storeSeen :
    2 ≤ State.reset.params.memSize ∧
    (0x0FFF : Word).toNat % State.reset.params.memSize = 0xFFF % State.reset.params.memSize ∧
    ((0x0FFF : Word).toNat + 1) % State.reset.params.memSize = 0x000 % State.reset.params.memSize := by decide

/-- StepRunsTheDecodedInstruction. -/
theorem test_witness_stepRuns :
    busy.status = .running ∧ busy.rendering = false ∧ busy.hostActs.stopRequested = false ∧
    decodeWord busy.params.keySkip (wordOfBytes (busy.readMem busy.pc.toNat) (busy.readMem (busy.pc.toNat + 1))) =
      .ok (.call 0x210) := by decide

/-- UnknownOpcodeEndsTheRun, both clauses. -/
theorem test_witness_unknown :
    (∀ row ∈ opcodeMap State.reset.params.keySkip, State.reset.fetchWord &&& row.mask ≠ row.value) ∧
    State.reset.status = .running ∧ State.reset.rendering = false ∧
    State.reset.hostActs.stopRequested = false := by decide

/-- StopRequestEndsTheRunAtTheBoundary, with the flag set and with a request at the boundary. -/
theorem test_witness_stop :
    busy.requestStop.hostActs.stopRequested = true ∧ busy.requestStop.status = .running ∧
    busy.requestStop.rendering = false ∧ (acted ⟨true, 0, 0⟩ busy).hostActs.stopRequested = true := by decide

/-- StepsKeepTheStopFlagAndTheParameters: a step of a waiting core whose stop flag is set. -/
theorem test_witness_keepsStop :
    nextIs (step (polled (.key 0) { waiting with stopRequested := true })) (fun t => t.stopRequested) = true := by decide

/-- HaltedCoreHasNoStep. -/
theorem test_witness_halted : (busy.raise .cancellation).status = .halted .cancellation := by decide

/-- WaitingCoreLooksAgain, its clauses: waiting for a key; a Display with no answer yet; a render under way with each
answer. -/
theorem test_witness_waits :
    waiting.status = .waitingForKey 5 ∧ (renders [.pending] busy).nextRender = .pending ∧
    (drawing .ok).status = .running ∧ (drawing .ok).rendering = true ∧ (drawing .ok).nextRender = .ok ∧
    (drawing (.error 0)).nextRender = .error 0 ∧ (drawing .pending).nextRender = .pending := by decide +kernel

/-- FramesAreTheRenderedBuffers: a step that renders and one that does not. -/
theorem test_witness_frames :
    nextIs (step ((renders [.ok] State.reset).withFetchWord 16 0x00E0)) (fun t => t.frames = [0]) = true ∧
    nextIs (step busy) (fun t => t.frames = []) = true := by decide +kernel

/-- ResetMeetsTheInvariant: parameters at their bounds. -/
theorem test_witness_params :
    smallest.wf ∧ Params.wf { defaultParams with stackSize := 256 } ∧
    ¬ Params.wf { defaultParams with stackSize := 257 } ∧ ¬ Params.wf { defaultParams with memSize := 0x1FF } ∧
    ¬ Params.wf { defaultParams with stackSize := 0 } := by decide

/-- EveryStepKeepsTheInvariant, SoundCoreAlwaysSteps, RunReturnsHaltedOrGoesOn: a live core, and a halted one. -/
theorem test_witness_sound :
    (Inv busy ∧ Live busy ∧ ∃ t, step busy = .next t) ∧ (busy.raise .cancellation).status = .halted .cancellation :=
  ⟨⟨test_busy_inv, test_busy_live, _, rfl⟩, rfl⟩

/-- WaitingCoreStandsAtItsInstruction: a core waiting for a key and one whose render is under way, and their next
steps. -/
theorem test_witness_waiting :
    (WaitsAtItsInstruction waiting ∧ ∃ t, step waiting = .next t) ∧
    (WaitsAtItsInstruction (drawing .pending) ∧ ∃ t, step (drawing .pending) = .next t) :=
  ⟨⟨⟨(fun x h => by cases h; decide), (fun h => by cases h)⟩, _, rfl⟩,
    ⟨⟨(fun x h => by cases h), fun _ => ⟨rfl, .inr ⟨0, 1, 5, by decide⟩⟩⟩, _, rfl⟩⟩

/-- RetPopsOrUnderflows: SP = 0, SP = 1 and the highest slot. -/
theorem test_witness_ret :
    (nested 0).sp = 0 ∧ ((nested 1).sp ≠ 0 ∧ (nested 1).stack[(nested 1).sp.toNat]? = some 0x204) ∧
    (nested 15).stack[(nested 15).sp.toNat]? = some 0x204 := by decide

/-- CallPushesOrOverflows: SP = 15 overflows, SP = 14 does not. -/
theorem test_witness_call :
    (nested 15).sp.toNat + 1 ≥ (nested 15).params.stackSize ∧
    ((nested 14).params.wf ∧ (nested 14).stack.length = (nested 14).params.stackSize ∧
      (nested 14).sp.toNat + 1 < (nested 14).params.stackSize) := by decide

/-- RetAfterCallResumesAfterTheCall. -/
theorem test_witness_callRet : Inv busy ∧ busy.sp.toNat + 1 < busy.params.stackSize := ⟨test_busy_inv, by decide⟩

/-- AddSetsTheCarry, SubtractionsSetTheStrictNotBorrow, ShiftsSetTheBitShiftedOut: a destination that is not VF. -/
theorem test_witness_notFlag : (0xE : Reg) ≠ Reg.flag := by decide

/-- EveryHostAnswerIsAdmitted, KeySkipsAskTheKeypad. -/
theorem test_witness_keySkip : State.reset.params.keySkip = true := by decide

/-- BcdStoresThreeDigits, BlockStoreWritesTheRegisters: the least memory, an address outside the stored bytes, and
the highest register stored. -/
theorem test_witness_stores :
    (built smallest State.reset).params.wf ∧
    (∀ k, k < 3 → 3 % smallest.memSize ≠ (State.reset.dataAddr k) % smallest.memSize) ∧
    (∀ k, k ≤ 15 → 16 % smallest.memSize ≠ (State.reset.dataAddr k) % smallest.memSize) ∧ (0xF : Reg) ≤ 0xF := by
  decide

/-- BlockLoadReadsTheRegisters, BlockTransferRoundTrip: registers on both sides of x. -/
theorem test_witness_blocks :
    (5 : Reg) ≤ 5 ∧ (5 : Reg) < 6 ∧
    ∃ t, exec (.storeRegs 5) busy = .next t ∧ (t.setReg 0 0x99).i = t.i ∧ (t.setReg 0 0x99).params = t.params ∧
      SameMemory t (t.setReg 0 0x99) :=
  ⟨by decide, by decide, _, rfl, rfl, rfl, fun _ => rfl⟩

/-- ClearScreenClearsAndRenders, DrawFlipsTheCoveredCells, DrawCompletesWhenTheDisplayAccepts. -/
theorem test_witness_render :
    (renders [.ok] busy).nextRender = .ok ∧ (renders [.error 0] busy).nextRender = .error 0 := by decide

/-- R194 clears before render(): the buffer is off while the Display has not answered. -/
theorem test_cls_pending :
    nextIs (exec .cls (renders [.pending] { State.reset with fb := lit [5] }))
      (fun t => t.fb = 0 && t.frames = [0] && t.pc = 0x200) = true := by decide +kernel

/-- A sprite that covers a lit cell, so that a draw collides. -/
theorem test_witness_covers :
    covers 0 0 1 (fun r => State.reset.readMem (0 + r)) 3 ∧ (lit [3]).getLsbD (3 : Fin 2048) = true :=
  ⟨⟨0, by decide, 3, by decide, by decide, by decide⟩, by decide +kernel⟩

/-- DrawingTwiceRestoresTheScreen: an origin in V0 and V1, which a draw leaves. -/
theorem test_witness_drawTwice :
    ∃ t, exec (.drw 0 1 5) (renders [.ok, .ok] busy) = .next t ∧ t.reg 0 = busy.reg 0 ∧ t.reg 1 = busy.reg 1 ∧
      ∃ u, exec (.drw 0 1 5) t = .next u :=
  ⟨_, rfl, by decide +kernel, by decide +kernel, _, rfl⟩

/-- DrawOriginsWrapAround: origins 64 and 32 apart (L1-6). -/
theorem test_witness_origins :
    (regs [(0, 0x44), (1, 0x22)]).i = (regs [(0, 0x04), (1, 0x02)]).i ∧
    (regs [(0, 0x44), (1, 0x22)]).fb = (regs [(0, 0x04), (1, 0x02)]).fb ∧
    ((regs [(0, 0x44), (1, 0x22)]).reg 0).toNat % 64 = ((regs [(0, 0x04), (1, 0x02)]).reg 0).toNat % 64 ∧
    ((regs [(0, 0x44), (1, 0x22)]).reg 1).toNat % 32 = ((regs [(0, 0x04), (1, 0x02)]).reg 1).toNat % 32 ∧
    SameMemory (regs [(0, 0x04), (1, 0x02)]) (regs [(0, 0x44), (1, 0x22)]) ∧
    ∃ t t', exec (.drw 0 1 5) (regs [(0, 0x04), (1, 0x02)]) = .next t ∧
      exec (.drw 0 1 5) (regs [(0, 0x44), (1, 0x22)]) = .next t' :=
  ⟨rfl, rfl, by decide, by decide, fun _ => rfl, _, _, rfl, rfl⟩

/-- KeyWaitStoresTheKey: the highest key. -/
theorem test_witness_key : (polled (.key 15) busy).nextPoll = .key 15 ∧ 15 < 16 := by decide

/-- KeyWaitWithoutAKey, its four clauses; 16 is the least bad code. -/
theorem test_witness_noKey :
    (polled .pending busy).nextPoll = .pending ∧ (polled .cancel busy).nextPoll = .cancel ∧
    (polled (.error 0) busy).nextPoll = .error 0 ∧ ((polled (.key 16) busy).nextPoll = .key 16 ∧ 16 ≤ 16) := by decide

/-- KeySkipsMayBeUnknownOpcodes, both words, at the ends of the register range. -/
theorem test_witness_noKeySkip :
    (built noKeySkip busy).params.keySkip = false ∧ 0xE09E#16 &&& 0xF0FF#16 = 0xE09E#16 ∧
    0xEFA1#16 &&& 0xF0FF#16 = 0xE0A1#16 := by decide

/-- TimerAgentCountsDownToZero, both timer models. -/
theorem test_witness_timerModels :
    busy.params.timerModel = .externalCountdown ∧
    (built { defaultParams with timerModel := .frozen } busy).params.timerModel = .frozen := by decide

/-- TimersRiseOnlyByTheirInstructions: DT and ST rise by their instructions. -/
theorem test_witness_timersRise :
    nextIs (step ((regs [(3, 9)]).withFetchWord 16 0xF315)) (fun t => t.dt.toNat > 0) = true ∧
    nextIs (step ((regs [(3, 9)]).withFetchWord 16 0xF318)) (fun t => t.st.toNat > 0) = true := by decide

/-- OnlyNamedRegistersAreWritten, OnlyStoredBytesChange, SpecialStateHasItsOwnWriters, NextPcFollowsTheRules: a store,
the bytes beside it, a running core. -/
theorem test_witness_frames_of_all :
    busy.status = .running ∧ busy.rendering = false ∧ (∃ t, exec (.ldB 0) busy = .next t) ∧
    (∀ b ∈ storedAddrs busy (.ldB 0), 3 % busy.params.memSize ≠ b % busy.params.memSize) ∧
    (∀ b ∈ storedAddrs busy (.storeRegs 0xF), 16 % busy.params.memSize ≠ b % busy.params.memSize) :=
  ⟨by decide, by decide, ⟨_, rfl⟩, by decide, by decide⟩

/-- ErrorsArePrecise: each of its six clauses is reached by a running core. -/
theorem test_witness_errors :
    nextIs (exec (.call 0x400) (nested 15)) (fun t => t.status = .halted (.stackOverflow 0x200)) = true ∧
    nextIs (exec .ret (nested 0)) (fun t => t.status = .halted (.stackUnderflow 0x200)) = true ∧
    nextIs (exec (.ldVxK 5) (polled .cancel busy)) (fun t => t.status = .halted .cancellation) = true ∧
    nextIs (exec .cls (renders [.error 1] busy)) (fun t => t.status = .halted (.renderFailure 1)) = true ∧
    nextIs (exec (.drw 0 1 5) (renders [.error 1] busy)) (fun t => t.status = .halted (.renderFailure 1)) = true ∧
    nextIs (exec (.sknp 1) (built noKeySkip busy)) (fun t => t.status = .halted (.unknownOpcode 0xE1A1)) = true := by
  decide +kernel

/-- ConstructionChecksTheFrequency: the frequencies on both sides of the bound, and both sides of the font's end, in the
least memory that fits too. -/
theorem test_witness_frequency :
    defaultParams.wf ∧ (0 : Int) ≤ 0 ∧ (0 : Int) < 1 ∧ smallest.wf ∧ 79 < 80 ∧ 80 < smallest.memSize := by decide

/-- A FONT other than the default is what memory reads (10_state.md R37). -/
theorem test_font_given :
    (State.initial { smallest with font := Vector.replicate 80 0xA5 }).readMem 79 = 0xA5 ∧
    (State.initial { smallest with font := Vector.replicate 80 0xA5 }).readMem 80 = 0 := by decide

/-- LoadCopiesAProgramThatFits: the longest program that fits and the shortest that does not, and the least memory,
where only the empty program fits. -/
theorem test_witness_load :
    State.reset.params.wf ∧ (List.replicate 3585 (0 : Byte)).length > State.reset.params.memSize - 0x200 ∧
    (List.replicate 3584 (0 : Byte)).length ≤ State.reset.params.memSize - 0x200 ∧
    ([] : List Byte).length ≤ smallest.memSize - 0x200 := by
  rw [List.length_replicate, List.length_replicate]
  decide

/-- PlacedInstructionRunsNext, at the largest word that is an instruction. -/
theorem test_witness_placed :
    busy.params.wf ∧ 0xFF65 < 65536 ∧
      decodeWord busy.params.keySkip (BitVec.ofNat 16 0xFF65) = .ok (.loadRegs 0xF) := by decide

end Sys2Proof.Tests
end

