-- ==== Sys2Proof/Proofs/Dispatch.lean ====
section
/-! SUPPORT. The decoder read against the opcode map (30_encoding.md R77, R80, R82): a word that decodes is the word of
its instruction, which is a row of the map. So a word that matches no row is dispatched to UnknownOpcode
(40_dispatch.md R104). -/

namespace Sys2Proof

/-! ### A word with the fixed digits of a format is the word of its fields -/

theorem encAddr_of_family {op : Word} {h : Nibble} (hf : opFamily op = h) : encAddr h (opNnn op) = op :=
  hf ▸ encAddr_fields op

theorem encRegByte_of_family {op : Word} {h : Nibble} (hf : opFamily op = h) :
    encRegByte h (opX op) (opKk op) = op :=
  hf ▸ encRegByte_fields op

theorem encRegByte_of_lowByte {op : Word} {h : Nibble} {kk : Byte} (hf : opFamily op = h) (hk : opKk op = kk) :
    encRegByte h (opX op) kk = op :=
  hk ▸ encRegByte_of_family hf

theorem encRegReg_of_family {op : Word} {h : Nibble} (hf : opFamily op = h) :
    encRegReg h (opX op) (opY op) (opN op) = op :=
  hf ▸ encRegReg_fields op

theorem encRegReg_of_lowNibble {op : Word} {h d : Nibble} (hf : opFamily op = h) (hd : opN op = d) :
    encRegReg h (opX op) (opY op) d = op :=
  hd ▸ encRegReg_of_family hf

/-! ### What a word is decoded to: the word is its encoding, and it is well-formed -/

section
variable {keySkip : Bool} {op : Word} {i : Instr}

theorem decodeFamily0_sound (h : decodeFamily0 op = some i) :
    encode i = op ∧ WellFormed keySkip i = true := by
  unfold decodeFamily0 at h
  split_ifs at h with hcls hret
  · cases h; exact ⟨hcls.symm, rfl⟩
  · cases h; exact ⟨hret.symm, rfl⟩

theorem decodeFamily8_sound (hf : opFamily op = 0x8#4) (h : decodeFamily8 op = some i) :
    encode i = op ∧ WellFormed keySkip i = true := by
  unfold decodeFamily8 at h
  split at h <;> cases h <;> exact ⟨encRegReg_of_lowNibble hf ‹_›, rfl⟩

theorem decodeFamilyE_sound (hf : opFamily op = 0xE#4) (h : decodeFamilyE keySkip op = some i) :
    encode i = op ∧ WellFormed keySkip i = true := by
  unfold decodeFamilyE at h
  split_ifs at h with hkey hskp hsknp
  · cases h; exact ⟨encRegByte_of_lowByte hf hskp, hkey⟩
  · cases h; exact ⟨encRegByte_of_lowByte hf hsknp, hkey⟩

theorem decodeFamilyF_sound (hf : opFamily op = 0xF#4) (h : decodeFamilyF op = some i) :
    encode i = op ∧ WellFormed keySkip i = true := by
  unfold decodeFamilyF at h
  split at h <;> cases h <;> exact ⟨encRegByte_of_lowByte hf ‹_›, rfl⟩

/-- The family is a nibble, so the decoder's last arm is the family 0xF (R76). -/
theorem decodeRow_sound (h : decodeRow keySkip op = some i) : encode i = op ∧ WellFormed keySkip i = true := by
  unfold decodeRow at h
  split at h
  case h_1 => exact decodeFamily0_sound h
  case h_2 hf => cases h; exact ⟨encAddr_of_family hf, rfl⟩
  case h_3 hf => cases h; exact ⟨encAddr_of_family hf, rfl⟩
  case h_4 hf => cases h; exact ⟨encRegByte_of_family hf, rfl⟩
  case h_5 hf => cases h; exact ⟨encRegByte_of_family hf, rfl⟩
  case h_6 hf => split_ifs at h with hn; cases h; exact ⟨encRegReg_of_lowNibble hf hn, rfl⟩
  case h_7 hf => cases h; exact ⟨encRegByte_of_family hf, rfl⟩
  case h_8 hf => cases h; exact ⟨encRegByte_of_family hf, rfl⟩
  case h_9 hf => exact decodeFamily8_sound hf h
  case h_10 hf => split_ifs at h with hn; cases h; exact ⟨encRegReg_of_lowNibble hf hn, rfl⟩
  case h_11 hf => cases h; exact ⟨encAddr_of_family hf, rfl⟩
  case h_12 hf => cases h; exact ⟨encAddr_of_family hf, rfl⟩
  case h_13 hf => cases h; exact ⟨encRegByte_of_family hf, rfl⟩
  case h_14 hf => cases h; exact ⟨encRegReg_of_family hf, rfl⟩
  case h_15 hf => exact decodeFamilyE_sound hf h
  case h_16 =>
    have hf : opFamily op = 0xF#4 := by
      simp only [imp_false] at *
      bv_omega
    exact decodeFamilyF_sound hf h

theorem decodeWord_sound (h : decodeWord keySkip op = .ok i) : encode i = op ∧ WellFormed keySkip i = true := by
  unfold decodeWord at h
  split at h
  case h_1 hrow => cases h; exact decodeRow_sound hrow
  case h_2 => cases h

/-! ### Every instruction belongs to a row of the map, and its word matches that row -/

theorem rowOf_mem_opcodeMap (h : WellFormed keySkip i = true) : rowOf i ∈ opcodeMap keySkip := by
  cases i
  case skp x =>
    obtain rfl : keySkip = true := h
    simp [rowOf, opcodeMap, opcodeRowsKeySkip]
  case sknp x =>
    obtain rfl : keySkip = true := h
    simp [rowOf, opcodeMap, opcodeRowsKeySkip]
  all_goals simp [rowOf, opcodeMap, opcodeRowsLow, opcodeRowsHigh]

open Laws in
/-- The family RowMatch, of every instruction at once. -/
theorem encode_matches_rowOf : ∀ i : Instr, encode i &&& (rowOf i).mask = (rowOf i).value
  | .cls => RowMatch.cls
  | .ret => RowMatch.ret
  | .jp nnn => RowMatch.jp nnn
  | .call nnn => RowMatch.call nnn
  | .seByte x kk => RowMatch.seByte x kk
  | .sneByte x kk => RowMatch.sneByte x kk
  | .seReg x y => RowMatch.seReg x y
  | .ldByte x kk => RowMatch.ldByte x kk
  | .addByte x kk => RowMatch.addByte x kk
  | .ldReg x y => RowMatch.ldReg x y
  | .orReg x y => RowMatch.orReg x y
  | .andReg x y => RowMatch.andReg x y
  | .xorReg x y => RowMatch.xorReg x y
  | .addReg x y => RowMatch.addReg x y
  | .sub x y => RowMatch.sub x y
  | .shr x y => RowMatch.shr x y
  | .subn x y => RowMatch.subn x y
  | .shl x y => RowMatch.shl x y
  | .sneReg x y => RowMatch.sneReg x y
  | .ldI nnn => RowMatch.ldI nnn
  | .jpV0 nnn => RowMatch.jpV0 nnn
  | .rnd x kk => RowMatch.rnd x kk
  | .drw x y n => RowMatch.drw x y n
  | .skp x => RowMatch.skp x
  | .sknp x => RowMatch.sknp x
  | .ldVxDt x => RowMatch.ldVxDt x
  | .ldVxK x => RowMatch.ldVxK x
  | .ldDtVx x => RowMatch.ldDtVx x
  | .ldStVx x => RowMatch.ldStVx x
  | .addI x => RowMatch.addI x
  | .ldF x => RowMatch.ldF x
  | .ldB x => RowMatch.ldB x
  | .storeRegs x => RowMatch.storeRegs x
  | .loadRegs x => RowMatch.loadRegs x

theorem decodeWord_matches_rowOf (h : decodeWord keySkip op = .ok i) :
    rowOf i ∈ opcodeMap keySkip ∧ op &&& (rowOf i).mask = (rowOf i).value := by
  obtain ⟨henc, hwf⟩ := decodeWord_sound h
  exact ⟨rowOf_mem_opcodeMap hwf, henc ▸ encode_matches_rowOf i⟩

theorem decodeWord_of_no_row (h : ∀ row ∈ opcodeMap keySkip, op &&& row.mask ≠ row.value) :
    decodeWord keySkip op = .error (.unknownOpcode op) := by
  unfold decodeWord
  split
  case h_1 i hrow =>
    have hok : decodeWord keySkip op = .ok i := by rw [decodeWord, hrow]
    obtain ⟨hmem, hmatch⟩ := decodeWord_matches_rowOf hok
    exact absurd hmatch (h _ hmem)
  case h_2 => rfl

end

end Sys2Proof

namespace Sys2Proof.Machine

theorem State.raise_onlyEndsTheRun (s : State) (o : RunOutcome) : OnlyEndsTheRun o s (s.raise o) :=
  ⟨rfl, rfl, fun _ => rfl, fun _ _ => rfl, rfl, ⟨rfl, rfl⟩, ⟨rfl, rfl⟩, ⟨rfl, rfl, rfl⟩, rfl, rfl, rfl⟩

theorem dispatchWord_of_no_row {op : Word} {s : State}
    (h : ∀ row ∈ opcodeMap s.params.keySkip, op &&& row.mask ≠ row.value) :
    dispatchWord op s = .next (s.raise (.unknownOpcode op)) := by
  rw [dispatchWord, decodeWord_of_no_row h]

/-- A step from a boundary with no stop request dispatches the word at PC, which the boundary does not change
(R101, R110, R218). -/
theorem step_eq_dispatchWord {s : State} (hrun : s.status = .running) (hrender : s.rendering = false)
    (hstop : s.hostActs.stopRequested = false) : step s = dispatchWord s.fetchWord s.hostActs := by
  rw [step_eq_stepCall s fun _ _ => hstop, stepCall, hrun, ← s.hostActs_fetchWord]
  simp only [hrender, Bool.false_eq_true, if_false, cycle]

/-- Settles O10: no row matches, so the decoder answers UnknownOpcode, and raising it changes the status alone. -/
theorem unknownOpcodeEndsTheRun : Obligations.UnknownOpcodeEndsTheRun := by
  intro s hrow
  refine ⟨⟨_, dispatchWord_of_no_row hrow, s.raise_onlyEndsTheRun _⟩, fun hrun hrender hstop => ?_⟩
  have hstep : step s = .next (s.hostActs.raise (.unknownOpcode s.fetchWord)) := by
    rw [step_eq_dispatchWord hrun hrender hstop]
    exact dispatchWord_of_no_row (by rwa [State.hostActs_params])
  exact ⟨_, hstep, s.hostActs.raise_onlyEndsTheRun _⟩

end Sys2Proof.Machine
end

section
/-! SUPPORT. Control flow (41_control_flow.md): the words of RET and of the skips with an immediate, and what `exec`
does for each: RET's two ends (R121), and a skip as a write of PC alone (R106, R124, R125). -/

namespace Sys2Proof

/-! ### The words of the instructions -/

@[simp] theorem decodeRow_encode_ret (keySkip : Bool) : decodeRow keySkip (encode .ret) = some .ret := rfl

@[simp] theorem decodeRow_encode_seByte (keySkip : Bool) (x : Reg) (kk : Byte) :
    decodeRow keySkip (encode (.seByte x kk)) = some (.seByte x kk) := by
  simp [encode, decodeRow]

@[simp] theorem decodeRow_encode_sneByte (keySkip : Bool) (x : Reg) (kk : Byte) :
    decodeRow keySkip (encode (.sneByte x kk)) = some (.sneByte x kk) := by
  simp [encode, decodeRow]

end Sys2Proof

namespace Sys2Proof.Machine

/-- The word `w` of `i` is `encode i`, so reading `i` back from it is a fact about `decodeRow` and `encode` alone. -/
theorem encodedAs_of_decodeRow {i : Instr} {w : Nat} (hw : (encode i).toNat = w)
    (hrow : ∀ keySkip, WellFormed keySkip i = true → decodeRow keySkip (encode i) = some i) : EncodedAs i w := by
  refine ⟨hw, fun keySkip hwf => ?_⟩
  have hword : BitVec.ofNat 16 w = encode i := by rw [← hw, BitVec.ofNat_toNat, BitVec.setWidth_eq]
  rw [hword, decodeWord, hrow keySkip hwf]

theorem ret_encodedAs : EncodedAs .ret 0x00EE :=
  encodedAs_of_decodeRow rfl fun _ _ => decodeRow_encode_ret _

theorem seByte_encodedAs (x : Reg) (kk : Byte) :
    EncodedAs (.seByte x kk) (0x3000 + x.val * 0x100 + kk.toNat) :=
  encodedAs_of_decodeRow (encRegByte_toNat 0x3#4 x kk) fun _ _ => decodeRow_encode_seByte _ x kk

theorem sneByte_encodedAs (x : Reg) (kk : Byte) :
    EncodedAs (.sneByte x kk) (0x4000 + x.val * 0x100 + kk.toNat) :=
  encodedAs_of_decodeRow (encRegByte_toNat 0x4#4 x kk) fun _ _ => decodeRow_encode_sneByte _ x kk

/-! ### RET -/

theorem exec_ret_of_sp_zero {s : State} (h : s.sp = 0) :
    exec .ret s = .next (s.raise (.stackUnderflow s.pc)) := by
  rw [exec, execRet, if_pos h]

theorem exec_ret_of_slot {s : State} {w : Word} (h : s.sp ≠ 0) (hw : s.stack[s.sp.toNat]? = some w) :
    exec .ret s = .next ((s.setPc (w + 2)).setSp (s.sp - 1)) := by
  rw [exec, execRet, if_neg h, hw]

/-- SP is not 0 where RET pops, so its decrement does not wrap. -/
theorem toNat_sub_one_of_ne_zero {b : Byte} (h : b ≠ 0) : (b - 1).toNat = b.toNat - 1 :=
  BitVec.toNat_sub_of_le (by bv_omega)

/-- Settles O21: the split is the one on SP = 0; the slot read is the premise, so no fault arises. -/
theorem retPopsOrUnderflows : Obligations.RetPopsOrUnderflows := by
  refine ⟨ret_encodedAs, fun s => ⟨fun hsp => ?_, fun w hsp hw => ?_⟩⟩
  · exact ⟨_, exec_ret_of_sp_zero hsp, s.raise_onlyEndsTheRun _⟩
  · exact ⟨_, exec_ret_of_slot hsp hw, BitVec.toNat_add w 2, toNat_sub_one_of_ne_zero hsp, rfl, fun _ => rfl,
      fun _ _ => rfl, rfl, ⟨rfl, rfl⟩, ⟨rfl, rfl, rfl⟩, ⟨rfl, rfl, rfl⟩, rfl⟩

/-! ### Skips -/

theorem State.setPc_keepsAllBut (written : List Reg) (s : State) (w : Word) : KeepsAllBut written s (s.setPc w) :=
  ⟨fun _ => rfl, fun _ _ => rfl, rfl, ⟨rfl, rfl⟩, ⟨rfl, rfl⟩, ⟨rfl, rfl, rfl⟩, ⟨rfl, rfl, rfl⟩, rfl⟩

theorem State.skipIf_keepsAllBut (written : List Reg) (s : State) (c : Bool) :
    KeepsAllBut written s (s.skipIf c) :=
  s.setPc_keepsAllBut written _

/-- The two additions of `skipIf` are one: PC + 4 or PC + 2 (R106). -/
theorem State.skipIf_decide_pc (s : State) (p : Prop) [Decidable p] :
    (s.skipIf (decide p)).pc = if p then s.pc + 4 else s.pc + 2 := by
  by_cases hp : p
  · simp [hp, BitVec.add_assoc]
  · simp [hp]

theorem exec_seByte (x : Reg) (kk : Byte) (s : State) :
    exec (.seByte x kk) s = .next (s.skipIf (decide (s.reg x = kk))) := rfl

theorem exec_sneByte (x : Reg) (kk : Byte) (s : State) :
    exec (.sneByte x kk) s = .next (s.skipIf (decide (s.reg x ≠ kk))) := rfl

/-- Settles O25: both skip on a condition, SNE on the negation of SE's. -/
theorem immediateSkipsCompareAndSkip : Obligations.ImmediateSkipsCompareAndSkip := by
  intro s x kk
  refine ⟨seByte_encodedAs x kk, sneByte_encodedAs x kk,
    ⟨_, exec_seByte x kk s, s.skipIf_decide_pc _, s.skipIf_keepsAllBut _ _⟩,
    ⟨_, exec_sneByte x kk s, ?_, s.skipIf_keepsAllBut _ _⟩⟩
  rw [s.skipIf_decide_pc, ite_not]

end Sys2Proof.Machine
end

section
/-! SUPPORT. Register loads and arithmetic (42_alu.md): the words of the instructions, what a result and a flag are as
numbers, and what `exec` leaves: one register written and PC advanced (R141 to R146), or a result, then a flag in VF,
and PC advanced (R140, R147 to R151). -/

namespace Sys2Proof

/-! ### The words of the instructions -/

@[simp] theorem decodeRow_encode_ldByte (keySkip : Bool) (x : Reg) (kk : Byte) :
    decodeRow keySkip (encode (.ldByte x kk)) = some (.ldByte x kk) := by
  simp [encode, decodeRow]

@[simp] theorem decodeRow_encode_addByte (keySkip : Bool) (x : Reg) (kk : Byte) :
    decodeRow keySkip (encode (.addByte x kk)) = some (.addByte x kk) := by
  simp [encode, decodeRow]

/-- In the family 0x8 the low nibble decides the row (R76). -/
theorem decodeRow_of_family8 (keySkip : Bool) {op : Word} (hf : opFamily op = 0x8#4) :
    decodeRow keySkip op = decodeFamily8 op := by
  simp [decodeRow, hf]

end Sys2Proof

namespace Sys2Proof.Machine

theorem ldByte_encodedAs (x : Reg) (kk : Byte) :
    EncodedAs (.ldByte x kk) (0x6000 + x.val * 0x100 + kk.toNat) :=
  encodedAs_of_decodeRow (encRegByte_toNat 0x6#4 x kk) fun _ _ => decodeRow_encode_ldByte _ x kk

theorem addByte_encodedAs (x : Reg) (kk : Byte) :
    EncodedAs (.addByte x kk) (0x7000 + x.val * 0x100 + kk.toNat) :=
  encodedAs_of_decodeRow (encRegByte_toNat 0x7#4 x kk) fun _ _ => decodeRow_encode_addByte _ x kk

/-- The word of an instruction of the family 0x8 is `8 x y d`; the digit `d` selects its row (R73, R77). -/
theorem family8_encodedAs {i : Instr} {x y : Reg} (d : Nibble) (henc : encode i = encRegReg 0x8#4 x y d)
    (hrow : decodeFamily8 (encRegReg 0x8#4 x y d) = some i) :
    EncodedAs i (0x8000 + x.val * 0x100 + y.val * 0x10 + d.toNat) := by
  refine encodedAs_of_decodeRow (henc ▸ encRegReg_toNat 0x8#4 x y d) fun keySkip _ => ?_
  rw [henc, decodeRow_of_family8 keySkip (opFamily_encRegReg _ x y d), hrow]

section
variable (x y : Reg)

theorem ldReg_encodedAs : EncodedAs (.ldReg x y) (0x8000 + x.val * 0x100 + y.val * 0x10) :=
  family8_encodedAs 0x0#4 rfl (by simp [decodeFamily8])

theorem orReg_encodedAs : EncodedAs (.orReg x y) (0x8000 + x.val * 0x100 + y.val * 0x10 + 1) :=
  family8_encodedAs 0x1#4 rfl (by simp [decodeFamily8])

theorem andReg_encodedAs : EncodedAs (.andReg x y) (0x8000 + x.val * 0x100 + y.val * 0x10 + 2) :=
  family8_encodedAs 0x2#4 rfl (by simp [decodeFamily8])

theorem xorReg_encodedAs : EncodedAs (.xorReg x y) (0x8000 + x.val * 0x100 + y.val * 0x10 + 3) :=
  family8_encodedAs 0x3#4 rfl (by simp [decodeFamily8])

theorem addReg_encodedAs : EncodedAs (.addReg x y) (0x8000 + x.val * 0x100 + y.val * 0x10 + 4) :=
  family8_encodedAs 0x4#4 rfl (by simp [decodeFamily8])

theorem sub_encodedAs : EncodedAs (.sub x y) (0x8000 + x.val * 0x100 + y.val * 0x10 + 5) :=
  family8_encodedAs 0x5#4 rfl (by simp [decodeFamily8])

theorem shr_encodedAs : EncodedAs (.shr x y) (0x8000 + x.val * 0x100 + y.val * 0x10 + 6) :=
  family8_encodedAs 0x6#4 rfl (by simp [decodeFamily8])

theorem subn_encodedAs : EncodedAs (.subn x y) (0x8000 + x.val * 0x100 + y.val * 0x10 + 7) :=
  family8_encodedAs 0x7#4 rfl (by simp [decodeFamily8])

theorem shl_encodedAs : EncodedAs (.shl x y) (0x8000 + x.val * 0x100 + y.val * 0x10 + 0xE) :=
  family8_encodedAs 0xE#4 rfl (by simp [decodeFamily8])

end

/-! ### Results and flags as numbers -/

theorem addResult_toNat (a b : Byte) : (addResult a b).toNat = (a.toNat + b.toNat) % 256 := by
  rw [addResult, BitVec.toNat_ofNat, Nat.mod_mod]

theorem subResult_toNat (a b : Byte) : (subResult a b).toNat = (a.toNat + 256 - b.toNat) % 256 := by
  rw [subResult, BitVec.toNat_ofNat, Nat.mod_mod]

theorem shrResult_toNat (a : Byte) : (shrResult a).toNat = a.toNat / 2 := by
  have := a.isLt
  rw [shrResult, BitVec.toNat_ofNat]
  omega

theorem shlResult_toNat (a : Byte) : (shlResult a).toNat = a.toNat * 2 % 256 := by
  rw [shlResult, BitVec.toNat_ofNat, Nat.mod_mod]

/-- A flag is 1 or 0 as its condition says (R32). -/
theorem flagByte_decide_toNat (p : Prop) [Decidable p] : (flagByte (decide p)).toNat = if p then 1 else 0 := by
  by_cases hp : p <;> simp [flagByte, hp]

/-- A bit of a byte as a flag is that binary digit of the byte's value. -/
theorem flagByte_getLsbD_toNat (a : Byte) (k : Nat) : (flagByte (a.getLsbD k)).toNat = a.toNat / 2 ^ k % 2 := by
  have hbit : a.getLsbD k = decide (a.toNat / 2 ^ k % 2 = 1) := Nat.testBit_eq_decide_div_mod_eq
  rw [hbit, flagByte_decide_toNat]
  split_ifs <;> omega

theorem flagByte_carryOut_toNat (a b : Byte) :
    (flagByte (carryOut a b)).toNat = if a.toNat + b.toNat > 255 then 1 else 0 :=
  flagByte_decide_toNat _

theorem flagByte_notBorrow_toNat (a b : Byte) :
    (flagByte (notBorrow a b)).toNat = if a.toNat > b.toNat then 1 else 0 :=
  flagByte_decide_toNat _

theorem flagByte_lowBitOut_toNat (a : Byte) : (flagByte (lowBitOut a)).toNat = a.toNat % 2 := by
  rw [lowBitOut, flagByte_getLsbD_toNat, Nat.pow_zero, Nat.div_one]

/-- Bit 7 is the top bit, so nothing lies above it. -/
theorem flagByte_highBitOut_toNat (a : Byte) : (flagByte (highBitOut a)).toNat = a.toNat / 128 := by
  have := a.isLt
  rw [highBitOut, flagByte_getLsbD_toNat]
  omega

/-! ### A change of general registers and PC alone -/

/-- Where only the register file and PC differ, the frame is the frame of the registers. -/
theorem State.withRegsAndPc_keepsAllBut {written : List Reg} {s : State} {v : Vector (BitVec Config.vWidth) Config.numV}
    {w : Word} (h : SameRegsBut written s { s with v := v, pc := w }) :
    KeepsAllBut written s { s with v := v, pc := w } :=
  ⟨fun _ => rfl, h, rfl, ⟨rfl, rfl⟩, ⟨rfl, rfl⟩, ⟨rfl, rfl, rfl⟩, ⟨rfl, rfl, rfl⟩, rfl⟩

theorem State.setReg_advance_reg_self (s : State) (x : Reg) (b : Byte) : (s.setReg x b).advance.reg x = b := by
  rw [State.advance_reg, State.setReg_reg, if_pos rfl]

theorem State.setReg_advance_keepsAllBut (s : State) (x : Reg) (b : Byte) :
    KeepsAllBut [x] s (s.setReg x b).advance := by
  refine State.withRegsAndPc_keepsAllBut fun r hr => ?_
  exact (s.setReg_reg x b r).trans (if_neg (List.ne_of_not_mem_cons hr))

theorem State.setResultAndFlag_advance_keepsAllBut (s : State) (x : Reg) (b : Byte) (f : Bool) :
    KeepsAllBut [x, Reg.flag] s (s.setResultAndFlag x b f).advance := by
  refine State.withRegsAndPc_keepsAllBut fun r hr => ?_
  obtain ⟨hx, hflag⟩ : r ≠ x ∧ r ≠ Reg.flag := by simpa using hr
  exact (s.setResultAndFlag_reg x b f r).trans (by rw [if_neg hflag, if_neg hx])

/-! ### One register written -/

theorem exec_ldByte (x : Reg) (kk : Byte) (s : State) :
    exec (.ldByte x kk) s = .next (s.setReg x kk).advance := rfl

theorem exec_ldReg (x y : Reg) (s : State) :
    exec (.ldReg x y) s = .next (s.setReg x (s.reg y)).advance := rfl

theorem exec_addByte (x : Reg) (kk : Byte) (s : State) :
    exec (.addByte x kk) s = .next (s.setReg x (addResult (s.reg x) kk)).advance := rfl

theorem exec_orReg (x y : Reg) (s : State) :
    exec (.orReg x y) s = .next (s.setReg x (s.reg x ||| s.reg y)).advance := rfl

theorem exec_andReg (x y : Reg) (s : State) :
    exec (.andReg x y) s = .next (s.setReg x (s.reg x &&& s.reg y)).advance := rfl

theorem exec_xorReg (x y : Reg) (s : State) :
    exec (.xorReg x y) s = .next (s.setReg x (s.reg x ^^^ s.reg y)).advance := rfl

/-- What an instruction that writes V[x] and advances leaves: whatever holds of the value written holds of V[x], and
nothing else but PC changes. -/
theorem exec_setReg_advance {i : Instr} {s : State} {x : Reg} {b : Byte} {P : Byte → Prop}
    (hexec : exec i s = .next (s.setReg x b).advance) (hb : P b) :
    ∃ t, exec i s = .next t ∧ P (t.reg x) ∧ t.pc = s.pc + 2 ∧ KeepsAllBut [x] s t :=
  ⟨_, hexec, (s.setReg_advance_reg_self x b).symm ▸ hb, rfl, s.setReg_advance_keepsAllBut x b⟩

/-- Settles O27: both write one register; they differ in the value alone. -/
theorem loadsSetTheirRegister : Obligations.LoadsSetTheirRegister := by
  intro s x y kk
  exact ⟨ldByte_encodedAs x kk, ldReg_encodedAs x y,
    exec_setReg_advance (P := (· = kk)) (exec_ldByte x kk s) rfl,
    exec_setReg_advance (P := (· = s.reg y)) (exec_ldReg x y s) rfl⟩

/-- Settles O28: the one register written is the destination, so VF is in the frame of every other. -/
theorem addImmediateLeavesTheFlag : Obligations.AddImmediateLeavesTheFlag := by
  intro s x kk
  exact ⟨addByte_encodedAs x kk,
    exec_setReg_advance (P := (·.toNat = _)) (exec_addByte x kk s) (addResult_toNat _ kk)⟩

/-- Settles O29: the word operations are the bit operations at every bit. -/
theorem logicWorksBitByBit : Obligations.LogicWorksBitByBit := by
  intro s x y
  refine ⟨orReg_encodedAs x y, andReg_encodedAs x y, xorReg_encodedAs x y,
    ⟨_, exec_orReg x y s, rfl, s.setReg_advance_keepsAllBut x _, fun k => ?_⟩,
    ⟨_, exec_andReg x y s, rfl, s.setReg_advance_keepsAllBut x _, fun k => ?_⟩,
    ⟨_, exec_xorReg x y s, rfl, s.setReg_advance_keepsAllBut x _, fun k => ?_⟩⟩
  · rw [State.setReg_advance_reg_self, BitVec.getLsbD_or]
  · rw [State.setReg_advance_reg_self, BitVec.getLsbD_and]
  · rw [State.setReg_advance_reg_self, BitVec.getLsbD_xor]

/-! ### A result, then a flag -/

theorem exec_addReg (x y : Reg) (s : State) :
    exec (.addReg x y) s = .next
      (s.setResultAndFlag x (addResult (s.reg x) (s.reg y)) (carryOut (s.reg x) (s.reg y))).advance := rfl

theorem exec_sub (x y : Reg) (s : State) :
    exec (.sub x y) s = .next
      (s.setResultAndFlag x (subResult (s.reg x) (s.reg y)) (notBorrow (s.reg x) (s.reg y))).advance := rfl

theorem exec_subn (x y : Reg) (s : State) :
    exec (.subn x y) s = .next
      (s.setResultAndFlag x (subResult (s.reg y) (s.reg x)) (notBorrow (s.reg y) (s.reg x))).advance := rfl

theorem exec_shr (x y : Reg) (s : State) :
    exec (.shr x y) s = .next (s.setResultAndFlag x (shrResult (s.reg x)) (lowBitOut (s.reg x))).advance := rfl

theorem exec_shl (x y : Reg) (s : State) :
    exec (.shl x y) s = .next (s.setResultAndFlag x (shlResult (s.reg x)) (highBitOut (s.reg x))).advance := rfl

/-- What an instruction that writes a result, then a flag, and advances leaves. The flag comes last, so VF holds it
whatever x is, and the result stands where x is not F (R22, R140). -/
theorem exec_setResultAndFlag_advance {i : Instr} {s : State} {x : Reg} {b : Byte} {f : Bool} {n m : Nat}
    (hexec : exec i s = .next (s.setResultAndFlag x b f).advance) (hb : b.toNat = n) (hf : (flagByte f).toNat = m) :
    ∃ t, exec i s = .next t ∧ (x ≠ Reg.flag → (t.reg x).toNat = n) ∧ (t.reg Reg.flag).toNat = m ∧
      t.pc = s.pc + 2 ∧ KeepsAllBut [x, Reg.flag] s t := by
  refine ⟨_, hexec, fun hx => ?_, ?_, rfl, s.setResultAndFlag_advance_keepsAllBut x b f⟩
  · rw [State.advance_reg, State.setResultAndFlag_reg, if_neg hx, if_pos rfl, hb]
  · rw [State.advance_reg, State.setResultAndFlag_reg, if_pos rfl, hf]

/-- Settles O30: the result is the sum narrowed, the flag its ninth bit. -/
theorem addSetsTheCarry : Obligations.AddSetsTheCarry := by
  intro s x y
  exact ⟨addReg_encodedAs x y,
    exec_setResultAndFlag_advance (exec_addReg x y s) (addResult_toNat _ _) (flagByte_carryOut_toNat _ _)⟩

/-- Settles O31: SUBN is SUB with the operands exchanged, in the result and in the flag alike. -/
theorem subtractionsSetTheStrictNotBorrow : Obligations.SubtractionsSetTheStrictNotBorrow := by
  intro s x y
  exact ⟨sub_encodedAs x y, subn_encodedAs x y,
    exec_setResultAndFlag_advance (exec_sub x y s) (subResult_toNat _ _) (flagByte_notBorrow_toNat _ _),
    exec_setResultAndFlag_advance (exec_subn x y s) (subResult_toNat _ _) (flagByte_notBorrow_toNat _ _)⟩

/-- Settles O32: the meanings of the shifts do not mention V[y]; the flag is the binary digit shifted out. -/
theorem shiftsSetTheBitShiftedOut : Obligations.ShiftsSetTheBitShiftedOut := by
  intro s x y
  exact ⟨shr_encodedAs x y, shl_encodedAs x y,
    exec_setResultAndFlag_advance (exec_shr x y s) (shrResult_toNat _) (flagByte_lowBitOut_toNat _),
    exec_setResultAndFlag_advance (exec_shl x y s) (shlResult_toNat _) (flagByte_highBitOut_toNat _)⟩

end Sys2Proof.Machine
end

section
/-! SUPPORT. The block store (43_index_memory.md): its word, and what `exec` does for it: the store loop, then PC
advanced (R174, R176). -/

namespace Sys2Proof

/-- In the family 0xF the low byte decides the row (R76). -/
theorem decodeRow_of_familyF (keySkip : Bool) {op : Word} (hf : opFamily op = 0xF#4) :
    decodeRow keySkip op = decodeFamilyF op := by
  simp [decodeRow, hf]

end Sys2Proof

namespace Sys2Proof.Machine

/-- The word of an instruction of the family 0xF is `F x kk`; the byte `kk` selects its row (R73, R77). -/
theorem familyF_encodedAs {i : Instr} {x : Reg} (kk : Byte) (henc : encode i = encRegByte 0xF#4 x kk)
    (hrow : decodeFamilyF (encRegByte 0xF#4 x kk) = some i) :
    EncodedAs i (0xF000 + kk.toNat + x.val * 0x100) := by
  refine encodedAs_of_decodeRow ?_ fun keySkip _ => ?_
  · rw [henc, encRegByte_toNat, Nat.add_right_comm]; rfl
  · rw [henc, decodeRow_of_familyF keySkip (opFamily_encRegByte _ x kk), hrow]

theorem storeRegs_encodedAs (x : Reg) : EncodedAs (.storeRegs x) (0xF055 + x.val * 0x100) :=
  familyF_encodedAs 0x55#8 rfl (by simp [decodeFamilyF])

theorem exec_storeRegs (x : Reg) (s : State) :
    exec (.storeRegs x) s = .next (forRange State.storeOne (x.val + 1) s).advance := rfl

/-- The program area starts inside memory, so memory has room for the 16 registers and no turn of the loop overwrites
another's byte (R174, R176). -/
theorem storeLoop_readMem_reg {x k : Reg} (hk : k ≤ x) {s : State} (hwf : s.params.wf) :
    (forRange State.storeOne (x.val + 1) s).readMem (s.i.toNat + k.val) = s.reg k := by
  obtain ⟨hmem, -, -⟩ := hwf
  have hroom : 16 ≤ s.params.memSize := Nat.le_trans (by decide) hmem
  have hself : Fin.ofNat Config.numV k.val = k := Fin.ofNat_val_eq_self k
  rw [← State.dataAddr, storeLoop_readMem_inside (x.val + 1) x.isLt s hroom k.val (Nat.lt_succ_of_le hk), hself]

/-- Settles O37: memory is what the store loop leaves, and the loop writes memory alone, so PC is the advance's. -/
theorem blockStoreWritesTheRegisters : Obligations.BlockStoreWritesTheRegisters := by
  intro s x
  refine ⟨storeRegs_encodedAs x, fun hwf => ⟨_, exec_storeRegs x s, fun k hk => ?_, fun a ha => ?_, ?_⟩⟩
  · rw [State.advance_readMem, storeLoop_readMem_reg hk hwf]
  · rw [State.advance_readMem, storeLoop_readMem_outside _ s a fun k hk => ha k (Nat.le_of_lt_succ hk)]
  · rw [storeLoop_frame]
    exact ⟨rfl, fun _ _ => rfl, rfl, ⟨rfl, rfl⟩, ⟨rfl, rfl⟩, ⟨rfl, rfl, rfl⟩, ⟨rfl, rfl, rfl⟩, rfl⟩

end Sys2Proof.Machine
end

section
/-! SUPPORT. The key skips where KEY_SKIP_IMPLEMENTED is false (45_timers_keypad.md R219; 30_encoding.md R82): their
words are of the family 0xE, which then has no row, so they are dispatched to UnknownOpcode (40_dispatch.md R104). -/

namespace Sys2Proof

/-- The mask of a row that fixes the family and the low byte keeps the family (R77). -/
theorem opFamily_and_0xF0FF (op : Word) : opFamily (op &&& 0xF0FF#16) = opFamily op := by
  have hkept : opFamily 0xF0FF#16 = BitVec.allOnes 4 := by decide
  rw [opFamily, BitVec.extractLsb'_and, ← opFamily, ← opFamily, hkept, BitVec.and_allOnes]

theorem opFamily_of_keySkipRow {op : Word} (h : op &&& 0xF0FF#16 = 0xE09E#16 ∨ op &&& 0xF0FF#16 = 0xE0A1#16) :
    opFamily op = 0xE#4 := by
  rw [← opFamily_and_0xF0FF op]
  obtain hskp | hsknp := h
  · rw [hskp]; rfl
  · rw [hsknp]; rfl

theorem decodeRow_of_familyE (keySkip : Bool) {op : Word} (hf : opFamily op = 0xE#4) :
    decodeRow keySkip op = decodeFamilyE keySkip op := by
  simp [decodeRow, hf]

/-- Without the key skips no word of the family 0xE decodes, whatever its low byte (R82). -/
theorem decodeWord_false_of_familyE {op : Word} (hf : opFamily op = 0xE#4) :
    decodeWord false op = .error (.unknownOpcode op) := by
  have hnone : decodeRow false op = none := decodeRow_of_familyE false hf
  rw [decodeWord, hnone]

end Sys2Proof

namespace Sys2Proof.Machine

theorem dispatchWord_of_decode_error {op : Word} {s : State} {e : DecodeError}
    (h : decodeWord s.params.keySkip op = .error e) :
    dispatchWord op s = .next (s.raise (.unknownOpcode op)) := by
  rw [dispatchWord, h]

/-- Settles O49: without the key skips the family 0xE has no row, so the word is raised before the Keypad is asked. -/
theorem keySkipsMayBeUnknownOpcodes : Obligations.KeySkipsMayBeUnknownOpcodes := by
  intro s op hkey hword
  have hdecode : decodeWord false op = .error (.unknownOpcode op) :=
    decodeWord_false_of_familyE (opFamily_of_keySkipRow hword)
  exact ⟨hdecode, _, dispatchWord_of_decode_error (hkey ▸ hdecode), s.raise_onlyEndsTheRun _⟩

end Sys2Proof.Machine
end

section
/-! SUPPORT. The two round trips of decoder and encoder (30_encoding.md R72, R73, R77, R82): an instruction's word is
decoded to the instruction, and a word that matches a row of the map is the word of an instruction of that row. -/

namespace Sys2Proof

/-! ### The decoder reads an encoding back -/

section
variable {keySkip : Bool} {op : Word} {i : Instr}

/-- The family of the word selects the decoder's arm; within the families 0x8, 0xE and 0xF the fixed low digits do. -/
theorem decodeRow_encode (h : WellFormed keySkip i = true) : decodeRow keySkip (encode i) = some i := by
  cases i
  case cls | ret => rfl
  case ldReg | orReg | andReg | xorReg | addReg | sub | shr | subn | shl =>
    rw [encode, decodeRow_of_family8 keySkip (opFamily_encRegReg ..)]
    simp [decodeFamily8]
  case skp | sknp =>
    obtain rfl : keySkip = true := h
    rw [encode, decodeRow_of_familyE true (opFamily_encRegByte ..)]
    simp [decodeFamilyE]
  case ldVxDt | ldVxK | ldDtVx | ldStVx | addI | ldF | ldB | storeRegs | loadRegs =>
    rw [encode, decodeRow_of_familyF keySkip (opFamily_encRegByte ..)]
    simp [decodeFamilyF]
  all_goals simp [encode, decodeRow]

theorem decodeWord_encode (h : WellFormed keySkip i = true) : decodeWord keySkip (encode i) = .ok i := by
  rw [decodeWord, decodeRow_encode h]

/-! ### A word that matches a row is the word of an instruction of that row -/

theorem opFamily_of_match {m v : Word} {f : Nibble} (h : op &&& m = v) (hm : opFamily m = BitVec.allOnes 4)
    (hf : opFamily v = f) : opFamily op = f := by
  rw [← hf, ← h, opFamily, opFamily, BitVec.extractLsb'_and, ← opFamily, ← opFamily, hm, BitVec.and_allOnes]

theorem opN_of_match {m v : Word} {d : Nibble} (h : op &&& m = v) (hm : opN m = BitVec.allOnes 4)
    (hd : opN v = d) : opN op = d := by
  rw [← hd, ← h, opN, opN, BitVec.extractLsb'_and, ← opN, ← opN, hm, BitVec.and_allOnes]

theorem opKk_of_match {m v : Word} {kk : Byte} (h : op &&& m = v) (hm : opKk m = BitVec.allOnes 8)
    (hk : opKk v = kk) : opKk op = kk := by
  rw [← hk, ← h, opKk, opKk, BitVec.extractLsb'_and, ← opKk, ← opKk, hm, BitVec.and_allOnes]

/-! The masks 0xF000, 0xF00F and 0xF0FF keep the digits that a format fixes: the family alone (ADDR, RIMM, RRN), the
family and the low nibble (RR), the family and the low byte (RSUB). -/

section
variable {v : Word} {f d : Nibble} {kk : Byte}

theorem encAddr_of_match (h : op &&& 0xF000#16 = v) (hf : opFamily v = f) : encAddr f (opNnn op) = op :=
  encAddr_of_family (opFamily_of_match h rfl hf)

theorem encRegByte_of_match (h : op &&& 0xF000#16 = v) (hf : opFamily v = f) :
    encRegByte f (opX op) (opKk op) = op :=
  encRegByte_of_family (opFamily_of_match h rfl hf)

theorem encRegReg_of_match (h : op &&& 0xF000#16 = v) (hf : opFamily v = f) :
    encRegReg f (opX op) (opY op) (opN op) = op :=
  encRegReg_of_family (opFamily_of_match h rfl hf)

theorem encRegReg_of_nibbleMatch (h : op &&& 0xF00F#16 = v) (hf : opFamily v = f) (hd : opN v = d) :
    encRegReg f (opX op) (opY op) d = op :=
  encRegReg_of_lowNibble (opFamily_of_match h rfl hf) (opN_of_match h rfl hd)

theorem encRegByte_of_byteMatch (h : op &&& 0xF0FF#16 = v) (hf : opFamily v = f) (hk : opKk v = kk) :
    encRegByte f (opX op) kk = op :=
  encRegByte_of_lowByte (opFamily_of_match h rfl hf) (opKk_of_match h rfl hk)

end

/-- The instruction of `i`'s row with the operands that the fields of `op` give (R72). -/
def Instr.withFields (op : Word) : Instr → Instr
  | .cls => .cls
  | .ret => .ret
  | .jp _ => .jp (opNnn op)
  | .call _ => .call (opNnn op)
  | .seByte _ _ => .seByte (opX op) (opKk op)
  | .sneByte _ _ => .sneByte (opX op) (opKk op)
  | .seReg _ _ => .seReg (opX op) (opY op)
  | .ldByte _ _ => .ldByte (opX op) (opKk op)
  | .addByte _ _ => .addByte (opX op) (opKk op)
  | .ldReg _ _ => .ldReg (opX op) (opY op)
  | .orReg _ _ => .orReg (opX op) (opY op)
  | .andReg _ _ => .andReg (opX op) (opY op)
  | .xorReg _ _ => .xorReg (opX op) (opY op)
  | .addReg _ _ => .addReg (opX op) (opY op)
  | .sub _ _ => .sub (opX op) (opY op)
  | .shr _ _ => .shr (opX op) (opY op)
  | .subn _ _ => .subn (opX op) (opY op)
  | .shl _ _ => .shl (opX op) (opY op)
  | .sneReg _ _ => .sneReg (opX op) (opY op)
  | .ldI _ => .ldI (opNnn op)
  | .jpV0 _ => .jpV0 (opNnn op)
  | .rnd _ _ => .rnd (opX op) (opKk op)
  | .drw _ _ _ => .drw (opX op) (opY op) (opN op)
  | .skp _ => .skp (opX op)
  | .sknp _ => .sknp (opX op)
  | .ldVxDt _ => .ldVxDt (opX op)
  | .ldVxK _ => .ldVxK (opX op)
  | .ldDtVx _ => .ldDtVx (opX op)
  | .ldStVx _ => .ldStVx (opX op)
  | .addI _ => .addI (opX op)
  | .ldF _ => .ldF (opX op)
  | .ldB _ => .ldB (opX op)
  | .storeRegs _ => .storeRegs (opX op)
  | .loadRegs _ => .loadRegs (opX op)

theorem rowOf_withFields (op : Word) (i : Instr) : rowOf (i.withFields op) = rowOf i := by
  cases i <;> rfl

theorem wellFormed_withFields (op : Word) (i : Instr) :
    WellFormed keySkip (i.withFields op) = WellFormed keySkip i := by
  cases i <;> rfl

theorem encode_withFields (h : op &&& (rowOf i).mask = (rowOf i).value) : encode (i.withFields op) = op := by
  cases i <;> simp only [rowOf] at h
  case cls | ret => rw [and_wordMask] at h; exact h.symm
  case jp | call | ldI | jpV0 => exact encAddr_of_match h rfl
  case seByte | sneByte | ldByte | addByte | rnd => exact encRegByte_of_match h rfl
  case drw => exact encRegReg_of_match h rfl
  case seReg | sneReg | ldReg | orReg | andReg | xorReg | addReg | sub | shr | subn | shl =>
    exact encRegReg_of_nibbleMatch h rfl rfl
  all_goals exact encRegByte_of_byteMatch h rfl rfl

/-- One instruction of each row before the key skips. -/
def rowSamplesLow : List Instr :=
  [.cls, .ret, .jp 0, .call 0, .seByte 0 0, .sneByte 0 0, .seReg 0 0, .ldByte 0 0, .addByte 0 0, .ldReg 0 0,
   .orReg 0 0, .andReg 0 0, .xorReg 0 0, .addReg 0 0, .sub 0 0, .shr 0 0, .subn 0 0, .shl 0 0, .sneReg 0 0,
   .ldI 0, .jpV0 0, .rnd 0 0, .drw 0 0 0]

/-- One instruction of each row after the key skips. -/
def rowSamplesHigh : List Instr :=
  [.ldVxDt 0, .ldVxK 0, .ldDtVx 0, .ldStVx 0, .addI 0, .ldF 0, .ldB 0, .storeRegs 0, .loadRegs 0]

/-- One instruction of each row of the map, in the map's order. -/
def rowSamples (keySkip : Bool) : List Instr :=
  rowSamplesLow ++ (if keySkip then [.skp 0, .sknp 0] else []) ++ rowSamplesHigh

theorem map_rowOf_rowSamples (keySkip : Bool) : (rowSamples keySkip).map rowOf = opcodeMap keySkip := by
  cases keySkip <;> rfl

theorem wellFormed_of_mem_rowSamples : ∀ i ∈ rowSamples keySkip, WellFormed keySkip i = true := by
  cases keySkip <;> decide

theorem decodeWord_of_match {row : OpRow} (hrow : row ∈ opcodeMap keySkip) (h : op &&& row.mask = row.value) :
    ∃ i, decodeWord keySkip op = .ok i ∧ rowOf i = row := by
  rw [← map_rowOf_rowSamples] at hrow
  obtain ⟨j, hj, rfl⟩ := List.mem_map.1 hrow
  have hwf : WellFormed keySkip (j.withFields op) = true :=
    (wellFormed_withFields op j).trans (wellFormed_of_mem_rowSamples j hj)
  refine ⟨j.withFields op, ?_, rowOf_withFields op j⟩
  have hdecode := decodeWord_encode hwf
  rwa [encode_withFields h] at hdecode

end

/-- Settles O1: each arm of the decoder reads the very fields its format wrote. -/
theorem decodeReadsBackEveryEncoding : Obligations.DecodeReadsBackEveryEncoding :=
  fun _ _ => decodeWord_encode

/-- Settles O2: a decoded word has the fixed digits of its row's format and the operands as its other fields. -/
theorem encodeWritesBackEveryDecoding : Obligations.EncodeWritesBackEveryDecoding :=
  fun _ _ _ => decodeWord_sound

/-- Settles O3: the two bytes make the word again. -/
theorem byteStreamReadsBackTheInstruction : Obligations.ByteStreamReadsBackTheInstruction := by
  intro keySkip i rest hwf
  simp only [encodeBytes, List.cons_append, List.nil_append, decodeBytes, wordOfBytes_bytes, decodeWord_encode hwf]

/-- Settles O4: the second clause turns the matching word into an encoding, which the decoder reads back. -/
theorem decoderFollowsTheOpcodeMap : Obligations.DecoderFollowsTheOpcodeMap :=
  fun _ _ => ⟨fun _ => decodeWord_matches_rowOf, fun _ => decodeWord_of_match, decodeWord_of_no_row⟩

/-- Settles O5: ten closed words, each evaluated by the decoder. -/
theorem writtenWordsDecode : Obligations.WrittenWordsDecode := by
  unfold Obligations.WrittenWordsDecode
  decide

namespace Machine

/-- Reading an instruction back from its word is the round trip, so a word's number is all that is left to say. -/
theorem encodedAs_of_toNat {i : Instr} {w : Nat} (hw : (encode i).toNat = w) : EncodedAs i w :=
  encodedAs_of_decodeRow hw fun _ => decodeRow_encode

end Machine

end Sys2Proof
end

section
/-! SUPPORT. Memory in the canonical form as the set of the cells that differ from memory after construction
(20_memory.md R50), and the fetch as two byte reads (R58, R65; 40_dispatch.md R101). -/

namespace Sys2Proof.Machine

/-! ### The canonical form is determined by what it reads as -/

theorem memGet_of_not_listed (p : Params) {m : List Host.Cell} {a : Nat} (h : ∀ c ∈ m, c.1 ≠ a) :
    memGet p m a = memBackground p a := by
  induction m with
  | nil => rfl
  | cons c m ih =>
    obtain ⟨hc, hm⟩ := List.forall_mem_cons.1 h
    rw [memGet_cons, if_neg hc, ih hm]

/-- The addresses rise, so the first cell listed for an address is the only one. -/
theorem memGet_of_mem (p : Params) {m : List Host.Cell} (hm : m.Pairwise (fun c d => c.1 < d.1)) {c : Host.Cell}
    (hc : c ∈ m) : memGet p m c.1 = c.2 := by
  induction m with
  | nil => cases hc
  | cons d m ih =>
    obtain ⟨hd, hm⟩ := List.pairwise_cons.1 hm
    rcases List.mem_cons.1 hc with rfl | hc
    · rw [memGet_cons, if_pos rfl]
    · rw [memGet_cons, if_neg (Nat.ne_of_lt (hd c hc)), ih hm hc]

theorem mem_iff_memGet {p : Params} {m : List Host.Cell} (hm : Memory.wf p m) {c : Host.Cell} :
    c ∈ m ↔ memGet p m c.1 = c.2 ∧ c.2 ≠ memBackground p c.1 := by
  obtain ⟨hrising, hcells⟩ := hm
  refine ⟨fun hc => ⟨memGet_of_mem p hrising hc, (hcells c hc).2⟩, fun ⟨hget, hne⟩ => ?_⟩
  by_contra hc
  refine hne (hget ▸ memGet_of_not_listed p fun d hd hdc => hc ?_)
  have hdget : d.2 = c.2 := by rw [← memGet_of_mem p hrising hd, hdc, hget]
  rwa [← Prod.ext hdc hdget]

theorem subset_of_equal_reads {p : Params} {m n : List Host.Cell} (hm : Memory.wf p m) (hn : Memory.wf p n)
    (h : ∀ a, a < p.memSize → memGet p m a = memGet p n a) {c : Host.Cell} (hc : c ∈ m) : c ∈ n := by
  obtain ⟨hget, hne⟩ := (mem_iff_memGet hm).1 hc
  exact (mem_iff_memGet hn).2 ⟨h c.1 (hm.2 c hc).1 ▸ hget, hne⟩

/-- Settles O6: both lists hold the same cells, and a list of rising addresses is determined by its cells. -/
theorem equalReadsMakeEqualMemories : Obligations.EqualReadsMakeEqualMemories := by
  intro p m n hm hn h
  have hnodup : ∀ {l : List Host.Cell}, l.Pairwise (fun c d => c.1 < d.1) → l.Nodup :=
    fun hl => hl.imp fun {c d} hlt (hcd : c = d) => Nat.ne_of_lt hlt (congrArg Prod.fst hcd)
  have hperm : m.Perm n := (List.perm_ext_iff_of_nodup (hnodup hm.1) (hnodup hn.1)).2 fun c =>
    ⟨subset_of_equal_reads hm hn h, subset_of_equal_reads hn hm fun a ha => (h a ha).symm⟩
  exact hperm.eq_of_pairwise (fun c d _ _ hcd hdc => absurd hcd (Nat.lt_asymm hdc)) hm.1 hn.1

/-! ### Addresses are taken modulo MEM_SIZE -/

theorem State.readMem_congr (s : State) {a b : Nat} (h : a % s.params.memSize = b % s.params.memSize) :
    s.readMem a = s.readMem b := by
  rw [State.readMem, State.readMem, h]

theorem State.writeMem_readMem_of_eq (s : State) {a c : Nat} (b : Byte)
    (h : c % s.params.memSize = a % s.params.memSize) : (s.writeMem a b).readMem c = b := by
  rw [State.writeMem_readMem, if_pos h]

theorem State.writeMem_readMem_of_ne (s : State) {a c : Nat} (b : Byte)
    (h : c % s.params.memSize ≠ a % s.params.memSize) : (s.writeMem a b).readMem c = s.readMem c := by
  rw [State.writeMem_readMem, if_neg h]

/-- Addresses less than MEM_SIZE apart name two bytes. -/
theorem add_mod_ne_of_lt {m a j k : Nat} (hjk : j < k) (hk : k < j + m) : (a + k) % m ≠ (a + j) % m := by
  intro h
  have hdvd := Nat.sub_mod_eq_zero_of_mod_eq h
  rw [show a + k - (a + j) = k - j by omega, Nat.mod_eq_of_lt (by omega)] at hdvd
  omega

/-! ### The fetch -/

theorem State.fetchWord_toNat (s : State) :
    s.fetchWord.toNat = (s.readMem s.pc.toNat).toNat * 256 + (s.readMem (s.pc.toNat + 1)).toNat :=
  wordOfBytes_toNat _ _

theorem State.fetchWord_high (s : State) : s.fetchWord.toNat / 256 = (s.readMem s.pc.toNat).toNat := by
  have := (s.readMem (s.pc.toNat + 1)).isLt
  rw [s.fetchWord_toNat]
  omega

theorem State.fetchWord_low (s : State) : s.fetchWord.toNat % 256 = (s.readMem (s.pc.toNat + 1)).toNat := by
  have := (s.readMem (s.pc.toNat + 1)).isLt
  rw [s.fetchWord_toNat]
  omega

/-- The word fetched depends on memory and on PC modulo MEM_SIZE alone (R25, R101). -/
theorem fetchWord_congr {s t : State} (hmem : SameMemory s t)
    (hpc : t.pc.toNat % s.params.memSize = s.pc.toNat % s.params.memSize) : t.fetchWord = s.fetchWord := by
  have hnext : (t.pc.toNat + 1) % s.params.memSize = (s.pc.toNat + 1) % s.params.memSize := Nat.ModEq.add_right 1 hpc
  rw [State.fetchWord, State.fetchWord, hmem, hmem, s.readMem_congr hpc, s.readMem_congr hnext]

/-- Settles O7: the two reads take their addresses modulo MEM_SIZE. -/
theorem fetchIsBigEndianModuloMemory : Obligations.FetchIsBigEndianModuloMemory := by
  intro s
  refine ⟨?_, fun t _ => fetchWord_congr⟩
  rw [s.fetchWord_toNat, s.readMem_congr (Nat.mod_mod s.pc.toNat _), s.readMem_congr (Nat.mod_mod (s.pc.toNat + 1) _)]

/-- Settles O8: with two bytes of memory PC and PC + 1 name two bytes, so the store changes one of the two read. -/
theorem storeIsSeenByTheNextFetch : Obligations.StoreIsSeenByTheNextFetch := by
  intro s a b hsize
  have hne : (s.pc.toNat + 1) % s.params.memSize ≠ s.pc.toNat % s.params.memSize :=
    add_mod_ne_of_lt (j := 0) Nat.one_pos (by omega)
  simp only [State.fetchWord_high, State.fetchWord_low, State.writeMem_pc]
  refine ⟨fun ha => ?_, fun ha => ?_⟩
  · rw [s.writeMem_readMem_of_eq b ha, s.writeMem_readMem_of_ne b (ha ▸ hne)]
    exact ⟨rfl, rfl⟩
  · rw [s.writeMem_readMem_of_eq b ha, s.writeMem_readMem_of_ne b (ha ▸ hne.symm)]
    exact ⟨rfl, rfl⟩

end Sys2Proof.Machine
end

section
/-! SUPPORT. Control flow, continued (41_control_flow.md): the two ends of CALL (R122), the return from it (R121), the
jumps (R123, R128) and the skips on two registers (R126, R127). -/

namespace Sys2Proof.Machine

/-! ### Words -/

theorem call_encodedAs (nnn : Addr12) : EncodedAs (.call nnn) (0x2000 + nnn.toNat) :=
  encodedAs_of_toNat (encAddr_toNat 0x2#4 nnn)

theorem jp_encodedAs (nnn : Addr12) : EncodedAs (.jp nnn) (0x1000 + nnn.toNat) :=
  encodedAs_of_toNat (encAddr_toNat 0x1#4 nnn)

theorem jpV0_encodedAs (nnn : Addr12) : EncodedAs (.jpV0 nnn) (0xB000 + nnn.toNat) :=
  encodedAs_of_toNat (encAddr_toNat 0xB#4 nnn)

theorem seReg_encodedAs (x y : Reg) : EncodedAs (.seReg x y) (0x5000 + x.val * 0x100 + y.val * 0x10) :=
  encodedAs_of_toNat (encRegReg_toNat 0x5#4 x y 0x0#4)

theorem sneReg_encodedAs (x y : Reg) : EncodedAs (.sneReg x y) (0x9000 + x.val * 0x100 + y.val * 0x10) :=
  encodedAs_of_toNat (encRegReg_toNat 0x9#4 x y 0x0#4)

/-! ### Operands as numbers -/

theorem addrWord_toNat (nnn : Addr12) : (addrWord nnn).toNat = nnn.toNat :=
  BitVec.toNat_setWidth_of_le (by decide)

theorem byteWord_toNat (b : Byte) : (byteWord b).toNat = b.toNat :=
  BitVec.toNat_setWidth_of_le (by decide)

/-! ### CALL and RET -/

theorem exec_call_of_full (nnn : Addr12) {s : State} (h : s.params.stackSize ≤ s.sp.toNat + 1) :
    exec (.call nnn) s = .next (s.raise (.stackOverflow s.pc)) :=
  if_pos h

/-- The state a CALL with a slot left leads to (R122). -/
def State.called (s : State) (nnn : Addr12) : State :=
  ((s.setSp (s.sp + 1)).setSlot (s.sp.toNat + 1) s.pc).setPc (addrWord nnn)

theorem exec_call_of_room (nnn : Addr12) {s : State} (hroom : s.sp.toNat + 1 < s.params.stackSize)
    (hlen : s.stack.length = s.params.stackSize) : exec (.call nnn) s = .next (s.called nnn) := by
  rw [exec, execCall, if_neg (Nat.not_le_of_lt hroom), if_pos (hlen ▸ hroom)]
  rfl

/-- An 8-bit SP counts every slot of a stack of at most 256, so CALL's increment does not wrap (R27). -/
theorem called_sp_toNat (nnn : Addr12) {s : State} (hroom : s.sp.toNat + 1 < s.params.stackSize)
    (hsize : s.params.stackSize ≤ 256) : (s.called nnn).sp.toNat = s.sp.toNat + 1 :=
  BitVec.toNat_add_of_lt (show s.sp.toNat + 1 < 2 ^ 8 by omega)

theorem called_slot (nnn : Addr12) {s : State} (hroom : s.sp.toNat + 1 < s.params.stackSize)
    (hlen : s.stack.length = s.params.stackSize) : (s.called nnn).stack[s.sp.toNat + 1]? = some s.pc :=
  List.getElem?_set_self (hlen ▸ hroom)

/-- Settles O22: the split is the one on the slots left; the slot read back is the one written. -/
theorem callPushesOrOverflows : Obligations.CallPushesOrOverflows := by
  intro s nnn
  refine ⟨call_encodedAs nnn, fun hfull => ⟨_, exec_call_of_full nnn hfull, s.raise_onlyEndsTheRun _⟩,
    fun ⟨_, _, hsize⟩ hlen hroom => ⟨_, exec_call_of_room nnn hroom hlen, called_sp_toNat nnn hroom hsize,
      called_slot nnn hroom hlen, fun j hj => List.getElem?_set_ne hj.symm, addrWord_toNat nnn, ?_⟩⟩
  exact ⟨fun _ => rfl, fun _ _ => rfl, rfl, ⟨rfl, rfl⟩, ⟨rfl, rfl, rfl⟩, ⟨rfl, rfl, rfl⟩, rfl⟩

/-- Settles O23: CALL leaves SP above 0 and its own address in the slot at SP, which is what RET pops. -/
theorem retAfterCallResumesAfterTheCall : Obligations.RetAfterCallResumesAfterTheCall := by
  intro s nnn ⟨⟨_, _, hsize⟩, _, hlen, _, _⟩ hroom
  have hsp : (s.called nnn).sp.toNat = s.sp.toNat + 1 := called_sp_toNat nnn hroom hsize
  have hne : (s.called nnn).sp ≠ 0 := fun h => by simp [h] at hsp
  have hslot : (s.called nnn).stack[(s.called nnn).sp.toNat]? = some s.pc := hsp ▸ called_slot nnn hroom hlen
  have hback : (s.called nnn).sp - 1 = s.sp := BitVec.add_sub_cancel s.sp 1
  refine ⟨_, _, exec_call_of_room nnn hroom hlen, exec_ret_of_slot hne hslot, rfl, hback, ?_⟩
  rw [hback]
  rfl

/-! ### Jumps and skips -/

theorem exec_jp (nnn : Addr12) (s : State) : exec (.jp nnn) s = .next (s.setPc (addrWord nnn)) := rfl

theorem exec_jpV0 (nnn : Addr12) (s : State) :
    exec (.jpV0 nnn) s = .next (s.setPc (addrWord nnn + byteWord (s.reg 0))) := rfl

theorem exec_seReg (x y : Reg) (s : State) :
    exec (.seReg x y) s = .next (s.skipIf (decide (s.reg x = s.reg y))) := rfl

theorem exec_sneReg (x y : Reg) (s : State) :
    exec (.sneReg x y) s = .next (s.skipIf (decide (s.reg x ≠ s.reg y))) := rfl

/-- A 12-bit address plus a byte is below 2^16, so JP V0 does not wrap (R128). -/
theorem addrWord_add_byteWord_toNat (nnn : Addr12) (b : Byte) :
    (addrWord nnn + byteWord b).toNat = nnn.toNat + b.toNat := by
  have hn := nnn.isLt
  have hb := b.isLt
  rw [BitVec.toNat_add, addrWord_toNat, byteWord_toNat]
  omega

/-- Settles O24: both write PC alone, and neither sum wraps. -/
theorem jumpsSetThePc : Obligations.JumpsSetThePc := by
  intro s nnn
  exact ⟨jp_encodedAs nnn, jpV0_encodedAs nnn,
    ⟨_, exec_jp nnn s, addrWord_toNat nnn, s.setPc_keepsAllBut _ _⟩,
    ⟨_, exec_jpV0 nnn s, addrWord_add_byteWord_toNat nnn _, s.setPc_keepsAllBut _ _⟩⟩

/-- Settles O26: as for the skips with an immediate, SNE skips on the negation of SE's condition. -/
theorem registerSkipsCompareAndSkip : Obligations.RegisterSkipsCompareAndSkip := by
  intro s x y
  refine ⟨seReg_encodedAs x y, sneReg_encodedAs x y,
    ⟨_, exec_seReg x y s, s.skipIf_decide_pc _, s.skipIf_keepsAllBut _ _⟩,
    ⟨_, exec_sneReg x y s, ?_, s.skipIf_keepsAllBut _ _⟩⟩
  rw [s.skipIf_decide_pc, ite_not]

end Sys2Proof.Machine
end

section
/-! SUPPORT. RND (42_alu.md R152), the address register (43_index_memory.md R170 to R172), LD B (R173) and LD Vx, [I]
(R175): their words, what `exec` leaves, and the round trip of the block transfers. -/

namespace Sys2Proof.Machine

/-! ### Words -/

/-- The word of an instruction of format RSUB is `h x kk` (R73). -/
theorem regSub_encodedAs {i : Instr} {x : Reg} (h : Nibble) (kk : Byte) (henc : encode i = encRegByte h x kk) :
    EncodedAs i (h.toNat * 4096 + kk.toNat + x.val * 0x100) :=
  encodedAs_of_toNat (by rw [henc, encRegByte_toNat, Nat.add_right_comm])

theorem rnd_encodedAs (x : Reg) (kk : Byte) : EncodedAs (.rnd x kk) (0xC000 + x.val * 0x100 + kk.toNat) :=
  encodedAs_of_toNat (encRegByte_toNat 0xC#4 x kk)

theorem ldI_encodedAs (nnn : Addr12) : EncodedAs (.ldI nnn) (0xA000 + nnn.toNat) :=
  encodedAs_of_toNat (encAddr_toNat 0xA#4 nnn)

theorem addI_encodedAs (x : Reg) : EncodedAs (.addI x) (0xF01E + x.val * 0x100) :=
  regSub_encodedAs 0xF#4 0x1E#8 rfl

theorem ldF_encodedAs (x : Reg) : EncodedAs (.ldF x) (0xF029 + x.val * 0x100) :=
  regSub_encodedAs 0xF#4 0x29#8 rfl

theorem ldB_encodedAs (x : Reg) : EncodedAs (.ldB x) (0xF033 + x.val * 0x100) :=
  regSub_encodedAs 0xF#4 0x33#8 rfl

theorem loadRegs_encodedAs (x : Reg) : EncodedAs (.loadRegs x) (0xF065 + x.val * 0x100) :=
  regSub_encodedAs 0xF#4 0x65#8 rfl

/-! ### RND -/

theorem exec_rnd (x : Reg) (kk : Byte) (s : State) :
    exec (.rnd x kk) s = .next (s.takeByte.setReg x (s.nextByte &&& kk)).advance := rfl

/-- Writing V[x] keeps every other register. -/
theorem State.setReg_sameRegsBut (s : State) (x : Reg) (b : Byte) : SameRegsBut [x] s (s.setReg x b) :=
  fun r hr => (s.setReg_reg x b r).trans (if_neg (List.ne_of_not_mem_cons hr))

/-- Settles O33: the AND is taken bit by bit, and taking the byte touches the host's script alone. -/
theorem randomByteIsMaskedByTheImmediate : Obligations.RandomByteIsMaskedByTheImmediate := by
  intro s x kk
  refine ⟨rnd_encodedAs x kk, _, exec_rnd x kk s, fun k => ?_, rfl, fun _ => rfl, s.setReg_sameRegsBut x _, rfl,
    ⟨rfl, rfl⟩, ⟨rfl, rfl⟩, ⟨rfl, rfl, rfl⟩, ⟨rfl, rfl, rfl⟩, rfl⟩
  rw [State.setReg_advance_reg_self, BitVec.getLsbD_and]

/-! ### The address register -/

theorem exec_ldI (nnn : Addr12) (s : State) : exec (.ldI nnn) s = .next (s.setI (addrWord nnn)).advance := rfl

theorem exec_addI (x : Reg) (s : State) :
    exec (.addI x) s = .next (s.setI (s.i + byteWord (s.reg x))).advance := rfl

theorem exec_ldF (x : Reg) (s : State) : exec (.ldF x) s = .next (s.setI (glyphAddr (s.reg x))).advance := rfl

theorem add_byteWord_toNat (w : Word) (b : Byte) : (w + byteWord b).toNat = (w.toNat + b.toNat) % 65536 := by
  rw [BitVec.toNat_add, byteWord_toNat]

/-- Five times a byte fits 16 bits (R172). -/
theorem glyphAddr_toNat (b : Byte) : (glyphAddr b).toNat = b.toNat * 5 := by
  have := b.isLt
  exact Nat.mod_eq_of_lt (show b.toNat * 5 < 2 ^ 16 by omega)

/-- What an instruction that writes I and advances leaves. -/
theorem exec_setI_advance {i : Instr} {s : State} {w : Word} {n : Nat} (hexec : exec i s = .next (s.setI w).advance)
    (hw : w.toNat = n) :
    ∃ t, exec i s = .next t ∧ t.i.toNat = n ∧ t.pc = s.pc + 2 ∧ SameMemory s t ∧ SameRegsBut [] s t ∧
      SameStack s t ∧ SameTimers s t ∧ SameScreen s t ∧ SameLoop s t ∧ SameHost s t :=
  ⟨_, hexec, hw, rfl, fun _ => rfl, fun _ _ => rfl, ⟨rfl, rfl⟩, ⟨rfl, rfl⟩, ⟨rfl, rfl, rfl⟩, ⟨rfl, rfl, rfl⟩, rfl⟩

/-- Settles O35: all three write I; they differ in the value alone. -/
theorem addressRegisterWrites : Obligations.AddressRegisterWrites := by
  intro s x nnn
  exact ⟨ldI_encodedAs nnn, addI_encodedAs x, ldF_encodedAs x,
    exec_setI_advance (exec_ldI nnn s) (addrWord_toNat nnn),
    exec_setI_advance (exec_addI x s) (add_byteWord_toNat s.i _),
    exec_setI_advance (exec_ldF x s) (glyphAddr_toNat _)⟩

/-! ### LD B -/

theorem exec_ldB (x : Reg) (s : State) : exec (.ldB x) s = .next (s.storeBcd (s.reg x)).advance := rfl

theorem bcdHundreds_toNat (b : Byte) : (bcdHundreds b).toNat = b.toNat / 100 := by
  have := b.isLt
  exact Nat.mod_eq_of_lt (show b.toNat / 100 < 2 ^ 8 by omega)

theorem bcdTens_toNat (b : Byte) : (bcdTens b).toNat = b.toNat / 10 % 10 :=
  Nat.mod_eq_of_lt (show b.toNat / 10 % 10 < 2 ^ 8 by omega)

theorem bcdOnes_toNat (b : Byte) : (bcdOnes b).toNat = b.toNat % 10 :=
  Nat.mod_eq_of_lt (show b.toNat % 10 < 2 ^ 8 by omega)

/-- The last of the three writes to an address is the one that is read there (R173). -/
theorem storeBcd_readMem (s : State) (b : Byte) (c : Nat) :
    (s.storeBcd b).readMem c =
      if c % s.params.memSize = s.dataAddr 2 % s.params.memSize then bcdOnes b
      else if c % s.params.memSize = s.dataAddr 1 % s.params.memSize then bcdTens b
      else if c % s.params.memSize = s.dataAddr 0 % s.params.memSize then bcdHundreds b
      else s.readMem c := by
  simp only [State.storeBcd, State.writeMem_readMem, State.writeMem_params]

theorem storeBcd_readMem_outside (s : State) (b : Byte) {c : Nat}
    (hc : ∀ k, k < 3 → c % s.params.memSize ≠ s.dataAddr k % s.params.memSize) :
    (s.storeBcd b).readMem c = s.readMem c := by
  rw [storeBcd_readMem, if_neg (hc 2 (by decide)), if_neg (hc 1 (by decide)), if_neg (hc 0 (by decide))]

/-- Settles O36: with three bytes of memory the three addresses are distinct, so no write is overwritten. -/
theorem bcdStoresThreeDigits : Obligations.BcdStoresThreeDigits := by
  intro s x
  refine ⟨ldB_encodedAs x, fun ⟨hmem, _, _⟩ => ?_⟩
  have hroom : 3 ≤ s.params.memSize := Nat.le_trans (by decide) hmem
  have hne : ∀ j k, j < k → k < 3 → s.dataAddr j % s.params.memSize ≠ s.dataAddr k % s.params.memSize :=
    fun j k hjk hk => (add_mod_ne_of_lt hjk (by omega)).symm
  refine ⟨_, exec_ldB x s, ?_, ?_, ?_, fun a => storeBcd_readMem_outside s _, rfl, fun _ _ => rfl, rfl, ⟨rfl, rfl⟩,
    ⟨rfl, rfl⟩, ⟨rfl, rfl, rfl⟩, ⟨rfl, rfl, rfl⟩, rfl⟩
  · rw [State.advance_readMem, show s.i.toNat = s.dataAddr 0 from rfl, storeBcd_readMem,
      if_neg (hne 0 2 (by decide) (by decide)), if_neg (hne 0 1 (by decide) (by decide)), if_pos rfl,
      bcdHundreds_toNat]
  · rw [State.advance_readMem, ← State.dataAddr, storeBcd_readMem, if_neg (hne 1 2 (by decide) (by decide)),
      if_pos rfl, bcdTens_toNat]
  · rw [State.advance_readMem, ← State.dataAddr, storeBcd_readMem, if_pos rfl, bcdOnes_toNat]

/-! ### LD Vx, [I] -/

theorem exec_loadRegs (x : Reg) (s : State) :
    exec (.loadRegs x) s = .next (forRange State.loadOne (x.val + 1) s).advance := rfl

theorem loadRegs_reg (x : Reg) (s : State) (k : Reg) :
    (forRange State.loadOne (x.val + 1) s).advance.reg k =
      if k ≤ x then s.readMem (s.i.toNat + k.val) else s.reg k := by
  rw [State.advance_reg, loadLoop_reg _ x.isLt, ← State.dataAddr]
  simp only [Nat.lt_succ_iff, Fin.le_def]

/-- Settles O38: the registers are what the load loop leaves, and the loop writes the register file alone. -/
theorem blockLoadReadsTheRegisters : Obligations.BlockLoadReadsTheRegisters := by
  intro s x
  refine ⟨loadRegs_encodedAs x, _, exec_loadRegs x s, loadRegs_reg x s, ?_⟩
  rw [loadLoop_frame]
  exact ⟨rfl, fun _ => rfl, rfl, ⟨rfl, rfl⟩, ⟨rfl, rfl⟩, ⟨rfl, rfl, rfl⟩, ⟨rfl, rfl, rfl⟩, rfl⟩

/-- Settles O39: the load reads the bytes at the I where the store left the registers. -/
theorem blockTransferRoundTrip : Obligations.BlockTransferRoundTrip := by
  intro s t u x hwf hstore hi _ hmem
  obtain rfl : (forRange State.storeOne (x.val + 1) s).advance = t := by
    simpa only [exec_storeRegs, Host.Outcome.next.injEq] using hstore
  have hbase : u.i = s.i := by rw [hi, storeLoop_frame]; rfl
  refine ⟨_, exec_loadRegs x u, fun k hk => ?_, fun k hk => ?_⟩
  · rw [loadRegs_reg, if_pos hk, hbase, hmem, State.advance_readMem, storeLoop_readMem_reg hk hwf]
  · rw [loadRegs_reg, if_neg (Fin.not_le.2 hk)]

end Sys2Proof.Machine
end

section
/-! SUPPORT. Timers and keypad (45_timers_keypad.md): the words of the instructions, the timer transfers (R212 to R214),
the key wait answer by answer (R215), and the key skips (R216, R217). -/

namespace Sys2Proof.Machine

/-! ### Words -/

theorem ldVxDt_encodedAs (x : Reg) : EncodedAs (.ldVxDt x) (0xF007 + x.val * 0x100) :=
  regSub_encodedAs 0xF#4 0x07#8 rfl

theorem ldVxK_encodedAs (x : Reg) : EncodedAs (.ldVxK x) (0xF00A + x.val * 0x100) :=
  regSub_encodedAs 0xF#4 0x0A#8 rfl

theorem ldDtVx_encodedAs (x : Reg) : EncodedAs (.ldDtVx x) (0xF015 + x.val * 0x100) :=
  regSub_encodedAs 0xF#4 0x15#8 rfl

theorem ldStVx_encodedAs (x : Reg) : EncodedAs (.ldStVx x) (0xF018 + x.val * 0x100) :=
  regSub_encodedAs 0xF#4 0x18#8 rfl

theorem skp_encodedAs (x : Reg) : EncodedAs (.skp x) (0xE09E + x.val * 0x100) :=
  regSub_encodedAs 0xE#4 0x9E#8 rfl

theorem sknp_encodedAs (x : Reg) : EncodedAs (.sknp x) (0xE0A1 + x.val * 0x100) :=
  regSub_encodedAs 0xE#4 0xA1#8 rfl

/-! ### Timer transfers -/

theorem exec_ldVxDt (x : Reg) (s : State) : exec (.ldVxDt x) s = .next (s.setReg x s.dt).advance := rfl

theorem exec_ldDtVx (x : Reg) (s : State) : exec (.ldDtVx x) s = .next (s.setDt (s.reg x)).advance := rfl

theorem exec_ldStVx (x : Reg) (s : State) : exec (.ldStVx x) s = .next (s.setSt (s.reg x)).advance := rfl

/-- Settles O45: each writes one register or one timer, and PC. -/
theorem timerRegistersAreReadAndWritten : Obligations.TimerRegistersAreReadAndWritten := by
  intro s x
  exact ⟨ldVxDt_encodedAs x, ldDtVx_encodedAs x, ldStVx_encodedAs x,
    exec_setReg_advance (P := (· = s.dt)) (exec_ldVxDt x s) rfl,
    ⟨_, exec_ldDtVx x s, rfl, rfl, rfl, fun _ => rfl, fun _ _ => rfl, rfl, ⟨rfl, rfl⟩, ⟨rfl, rfl, rfl⟩,
      ⟨rfl, rfl, rfl⟩, rfl⟩,
    ⟨_, exec_ldStVx x s, rfl, rfl, rfl, fun _ => rfl, fun _ _ => rfl, rfl, ⟨rfl, rfl⟩, ⟨rfl, rfl, rfl⟩,
      ⟨rfl, rfl, rfl⟩, rfl⟩⟩

/-! ### The key wait -/

theorem exec_ldVxK (x : Reg) (s : State) : exec (.ldVxK x) s = .next (s.awaitKey x) := rfl

section
variable (s : State) (x : Reg)

theorem State.awaitKey_of_pending (h : s.nextPoll = .pending) :
    s.awaitKey x = s.takePoll.setStatus (.waitingForKey x) := by
  simp only [State.awaitKey, h]

theorem State.awaitKey_of_key {k : Nat} (h : s.nextPoll = .key k) (hk : k < 16) :
    s.awaitKey x = ((s.takePoll.setStatus .running).setReg x (BitVec.ofNat Config.vWidth k)).advance := by
  simp only [State.awaitKey, h]
  exact if_pos hk

theorem State.awaitKey_of_badKey {k : Nat} (h : s.nextPoll = .key k) (hk : 16 ≤ k) :
    s.awaitKey x = s.takePoll.raise (.keypadFailure (.badKeyCode k)) := by
  simp only [State.awaitKey, h]
  exact if_neg (Nat.not_lt_of_le hk)

theorem State.awaitKey_of_cancel (h : s.nextPoll = .cancel) : s.awaitKey x = s.takePoll.raise .cancellation := by
  simp only [State.awaitKey, h]

theorem State.awaitKey_of_error {e : Nat} (h : s.nextPoll = .error e) :
    s.awaitKey x = s.takePoll.raise (.keypadFailure (.backend e)) := by
  simp only [State.awaitKey, h]

end

/-- A look at the Keypad that stores no key writes the status alone. -/
theorem State.takePoll_setStatus_keepsAllButKeyWait (s : State) (q : Status) :
    KeepsAllButKeyWait [] s (s.takePoll.setStatus q) :=
  ⟨fun _ => rfl, fun _ _ => rfl, rfl, ⟨rfl, rfl⟩, ⟨rfl, rfl⟩, ⟨rfl, rfl, rfl⟩, rfl, rfl, rfl⟩

/-- Settles O46: a key code below 16 fits a register. -/
theorem keyWaitStoresTheKey : Obligations.KeyWaitStoresTheKey := by
  intro s x k hpoll hk
  have hcode : (BitVec.ofNat Config.vWidth k).toNat = k := Nat.mod_eq_of_lt (show k < 2 ^ 8 by omega)
  refine ⟨ldVxK_encodedAs x, _, exec_ldVxK x s, ?_⟩
  rw [s.awaitKey_of_key x hpoll hk]
  refine ⟨?_, rfl, rfl, fun _ => rfl, s.setReg_sameRegsBut x _, rfl, ⟨rfl, rfl⟩, ⟨rfl, rfl⟩, ⟨rfl, rfl, rfl⟩, rfl,
    rfl, rfl⟩
  rw [State.setReg_advance_reg_self, hcode]

/-- Settles O47: every answer but a key below 16 writes the status alone, each with its own value. -/
theorem keyWaitWithoutAKey : Obligations.KeyWaitWithoutAKey := by
  intro s x
  refine ⟨fun h => ⟨_, exec_ldVxK x s, ?_⟩, fun h => ⟨_, exec_ldVxK x s, ?_⟩, fun e h => ⟨_, exec_ldVxK x s, ?_⟩,
    fun k h hk => ⟨_, exec_ldVxK x s, ?_⟩⟩
  · rw [s.awaitKey_of_pending x h]
    exact ⟨rfl, rfl, s.takePoll_setStatus_keepsAllButKeyWait _⟩
  · rw [s.awaitKey_of_cancel x h]
    exact ⟨rfl, rfl, s.takePoll_setStatus_keepsAllButKeyWait _⟩
  · rw [s.awaitKey_of_error x h]
    exact ⟨rfl, rfl, s.takePoll_setStatus_keepsAllButKeyWait _⟩
  · rw [s.awaitKey_of_badKey x h hk]
    exact ⟨rfl, rfl, s.takePoll_setStatus_keepsAllButKeyWait _⟩

/-! ### Key skips -/

theorem exec_skp (x : Reg) {s : State} (h : s.params.keySkip = true) :
    exec (.skp x) s = .next (s.takeKeyDown.skipIf (s.nextKeyDown (s.reg x))) :=
  if_pos h

theorem exec_sknp (x : Reg) {s : State} (h : s.params.keySkip = true) :
    exec (.sknp x) s = .next (s.takeKeyDown.skipIf (!s.nextKeyDown (s.reg x))) :=
  if_pos h

theorem exec_skp_of_unknown (x : Reg) {s : State} (h : s.params.keySkip = false) :
    exec (.skp x) s = .next (s.raise (.unknownOpcode (encode (.skp x)))) :=
  if_neg (by simp [h])

theorem exec_sknp_of_unknown (x : Reg) {s : State} (h : s.params.keySkip = false) :
    exec (.sknp x) s = .next (s.raise (.unknownOpcode (encode (.sknp x)))) :=
  if_neg (by simp [h])

theorem State.skipIf_pc_of_bool (s : State) (c : Bool) :
    (s.skipIf c).pc = if c = true then s.pc + 4 else s.pc + 2 := by
  rw [← s.skipIf_decide_pc, Bool.decide_eq_true]

theorem State.skipIf_not_pc (s : State) (c : Bool) :
    (s.skipIf (!c)).pc = if c = true then s.pc + 2 else s.pc + 4 := by
  cases c <;> exact s.skipIf_pc_of_bool _

/-- Settles O48: SKNP skips on the negation of the answer; taking it touches the host's script alone. -/
theorem keySkipsAskTheKeypad : Obligations.KeySkipsAskTheKeypad := by
  intro s x hkey
  exact ⟨skp_encodedAs x, sknp_encodedAs x,
    ⟨_, exec_skp x hkey, State.skipIf_pc_of_bool _ _, fun _ => rfl, fun _ _ => rfl, rfl, ⟨rfl, rfl⟩, ⟨rfl, rfl⟩,
      ⟨rfl, rfl, rfl⟩, ⟨rfl, rfl, rfl⟩, rfl⟩,
    ⟨_, exec_sknp x hkey, State.skipIf_not_pc _ _, fun _ => rfl, fun _ _ => rfl, rfl, ⟨rfl, rfl⟩, ⟨rfl, rfl⟩,
      ⟨rfl, rfl, rfl⟩, ⟨rfl, rfl, rfl⟩, rfl⟩⟩

end Sys2Proof.Machine
end

section
/-! SUPPORT. CLS and DRW (44_graphics.md): what both leave from the call of the Display on (R192, R194, R195), the draw
cell by cell and the flag (R191, R196), and what the compositor does with a sprite drawn twice (R197) and with another
origin (R190, R198). -/

namespace Sys2Proof.Machine

/-! ### Words -/

theorem cls_encodedAs : EncodedAs .cls 0x00E0 := encodedAs_of_toNat rfl

theorem drw_encodedAs (x y : Reg) (n : Nibble) :
    EncodedAs (.drw x y n) (0xD000 + x.val * 0x100 + y.val * 0x10 + n.toNat) :=
  encodedAs_of_toNat (encRegReg_toNat 0xD#4 x y n)

/-! ### The wait for the Display -/

section
variable {s : State}

theorem awaitDisplay_of_pending (h : s.nextRender = .pending) :
    s.awaitDisplay = { s.takeRender with rendering := true } := by
  simp only [State.awaitDisplay, h]
  rfl

theorem awaitDisplay_of_ok (h : s.nextRender = .ok) :
    s.awaitDisplay = { s.takeRender with pc := s.pc + 2, rendering := false } := by
  simp only [State.awaitDisplay, h]
  rfl

theorem awaitDisplay_of_error {e : Nat} (h : s.nextRender = .error e) :
    s.awaitDisplay = { s.takeRender with status := .halted (.renderFailure e), rendering := false } := by
  simp only [State.awaitDisplay, h]
  rfl

end

/-! ### The common end of CLS and DRW -/

/-- `s` with the registers and the buffer that CLS or DRW gives it before it calls the Display. -/
def State.composed (s : State) (v : Vector (BitVec Config.vWidth) Config.numV) (f : Framebuffer) : State :=
  { s with v := v, fb := f }

/-- What CLS and DRW leave, whatever the Display answers: a frame of the buffer they wrote. -/
theorem renderThenAdvance_frame (s : State) :
    s.renderThenAdvance =
      { s with
        pc := s.renderThenAdvance.pc
        status := s.renderThenAdvance.status
        rendering := s.renderThenAdvance.rendering
        host := s.takeRender.host
        frames := s.fb :: s.frames } :=
  s.showFrame.awaitDisplay_frame

section
variable {s : State} {v : Vector (BitVec Config.vWidth) Config.numV} {f : Framebuffer}

theorem composed_render_fb : (s.composed v f).renderThenAdvance.fb = f := by
  rw [renderThenAdvance_frame]
  rfl

theorem composed_render_reg (r : Reg) : (s.composed v f).renderThenAdvance.reg r = v[r] := by
  rw [renderThenAdvance_frame]
  rfl

theorem composed_render_keepsAllButScreen {written : List Reg} (h : SameRegsBut written s (s.composed v f)) :
    KeepsAllButScreen written s (s.composed v f).renderThenAdvance := by
  rw [renderThenAdvance_frame]
  exact ⟨fun _ => rfl, h, rfl, ⟨rfl, rfl⟩, ⟨rfl, rfl⟩, rfl, rfl, rfl, rfl⟩

theorem composed_render_of_ok (h : s.nextRender = .ok) :
    (s.composed v f).renderThenAdvance.pc = s.pc + 2 ∧ (s.composed v f).renderThenAdvance.status = s.status ∧
      (s.composed v f).renderThenAdvance.rendering = false := by
  rw [State.renderThenAdvance, awaitDisplay_of_ok (s := (s.composed v f).showFrame) h]
  exact ⟨rfl, rfl, rfl⟩

theorem composed_render_of_error {e : Nat} (h : s.nextRender = .error e) :
    (s.composed v f).renderThenAdvance.pc = s.pc ∧
      (s.composed v f).renderThenAdvance.status = .halted (.renderFailure e) ∧
      (s.composed v f).renderThenAdvance.rendering = false := by
  rw [State.renderThenAdvance, awaitDisplay_of_error (s := (s.composed v f).showFrame) h]
  exact ⟨rfl, rfl, rfl⟩

theorem composed_render_of_pending (h : s.nextRender = .pending) :
    (s.composed v f).renderThenAdvance.rendering = true ∧ (s.composed v f).renderThenAdvance.pc = s.pc ∧
      (s.composed v f).renderThenAdvance.status = s.status := by
  rw [State.renderThenAdvance, awaitDisplay_of_pending (s := (s.composed v f).showFrame) h]
  exact ⟨rfl, rfl, rfl⟩

end

theorem exec_cls (s : State) : exec .cls s = .next (s.composed s.v clearedFb).renderThenAdvance := rfl

/-- The registers after a draw: VF holds whether it collided (R195). -/
def State.drawnRegs (s : State) (x y : Reg) (n : Nibble) : Vector (BitVec Config.vWidth) Config.numV :=
  s.v.set Reg.flag.val (flagByte (s.drawn x y n).2) Reg.flag.isLt

theorem exec_drw (x y : Reg) (n : Nibble) (s : State) :
    exec (.drw x y n) s = .next (s.composed (s.drawnRegs x y n) (s.drawn x y n).1).renderThenAdvance := rfl

theorem drawnRegs_flag (x y : Reg) (n : Nibble) (s : State) :
    (s.drawnRegs x y n)[Reg.flag] = flagByte (s.drawn x y n).2 :=
  Vector.getElem_set_self _

theorem drawnRegs_sameRegsBut (x y : Reg) (n : Nibble) (s : State) (f : Framebuffer) :
    SameRegsBut [Reg.flag] s (s.composed (s.drawnRegs x y n) f) :=
  s.setReg_sameRegsBut Reg.flag _

/-- CLS and DRW differ in the buffer they compose and in VF alone. -/
theorem exec_render {i : Instr} (h : i = .cls ∨ ∃ x y n, i = .drw x y n) (s : State) :
    ∃ v f, exec i s = .next (s.composed v f).renderThenAdvance ∧ SameRegsBut (writtenRegs i) s (s.composed v f) := by
  obtain rfl | ⟨x, y, n, rfl⟩ := h
  · exact ⟨_, _, exec_cls s, fun _ _ => rfl⟩
  · exact ⟨_, _, exec_drw x y n s, drawnRegs_sameRegsBut x y n s _⟩

/-- Settles O40: the cleared buffer has no bit set; the rest is the common end of CLS and DRW. -/
theorem clearScreenClearsAndRenders : Obligations.ClearScreenClearsAndRenders := by
  refine ⟨cls_encodedAs, fun s => ⟨_, exec_cls s, fun q => ?_, composed_render_of_ok, fun _ => composed_render_of_error,
    composed_render_keepsAllButScreen fun _ _ => rfl⟩⟩
  rw [composed_render_fb]
  exact BitVec.getLsbD_zero

/-! ### The draw, cell by cell -/

theorem flagByte_eq_one_iff (b : Bool) : flagByte b = 1 ↔ b = true := by
  cases b <;> decide

/-- The cells that DRW's rows cover in `s`, drawn at the origin its registers give (R195). -/
def State.spriteCovers (s : State) (x y : Reg) (n : Nibble) (q : Fin 2048) : Prop :=
  covers (s.reg x).toNat (s.reg y).toNat n.toNat (fun r => s.readMem (s.i.toNat + r)) q

/-- A 4-bit row count is below the screen's height, so the rows do not overlap (R191). -/
theorem rows_le_height (n : Nibble) : n.toNat ≤ 32 :=
  Nat.le_trans (Nat.le_of_lt n.isLt) (by decide)

theorem drawn_cell (s : State) (x y : Reg) (n : Nibble) (q : Fin 2048) [Decidable (s.spriteCovers x y n q)] :
    (s.drawn x y n).1.getLsbD q = (s.fb.getLsbD q ^^ decide (s.spriteCovers x y n q)) := by
  rw [State.drawn_eq]
  exact @composite_cell _ _ _ _ _ (rows_le_height n) q ‹Decidable (s.spriteCovers x y n q)›

theorem drawn_collision (s : State) (x y : Reg) (n : Nibble) :
    (s.drawn x y n).2 = true ↔ ∃ q, s.spriteCovers x y n q ∧ s.fb.getLsbD q = true := by
  rw [State.drawn_eq]
  exact composite_collision _ _ _ _ _ (rows_le_height n)

theorem drawn_cell_lit_iff (s : State) (x y : Reg) (n : Nibble) (q : Fin 2048) :
    (s.drawn x y n).1.getLsbD q = true ↔
      ((s.fb.getLsbD q = true ∧ ¬ s.spriteCovers x y n q) ∨
        (s.fb.getLsbD q = false ∧ s.spriteCovers x y n q)) := by
  classical
  rw [drawn_cell]
  by_cases hq : s.spriteCovers x y n q <;> simp [hq]

theorem drawn_flag_cases (s : State) (x y : Reg) (n : Nibble) :
    (flagByte (s.drawn x y n).2 = 1 ∧ ∃ q, s.spriteCovers x y n q ∧ s.fb.getLsbD q = true) ∨
      (flagByte (s.drawn x y n).2 = 0 ∧ ∀ q, s.spriteCovers x y n q → s.fb.getLsbD q = false) := by
  cases hc : (s.drawn x y n).2
  case true => exact .inl ⟨rfl, (drawn_collision s x y n).1 hc⟩
  case false =>
    refine .inr ⟨rfl, fun q hq => Bool.eq_false_iff.2 fun hlit => ?_⟩
    exact Bool.false_ne_true (hc.symm.trans ((drawn_collision s x y n).2 ⟨q, hq, hlit⟩))

/-- Settles O41: the cells and the flag are the compositor's; the rest is the common end of CLS and DRW. -/
theorem drawFlipsTheCoveredCells : Obligations.DrawFlipsTheCoveredCells := by
  intro s x y n
  refine ⟨drw_encodedAs x y n, _, exec_drw x y n s, fun q => ?_, ?_, composed_render_of_ok,
    fun _ => composed_render_of_error, composed_render_keepsAllButScreen (drawnRegs_sameRegsBut x y n s _)⟩
  · rw [composed_render_fb]
    exact drawn_cell_lit_iff s x y n q
  · rw [composed_render_reg, drawnRegs_flag]
    exact drawn_flag_cases s x y n

/-- Settles O42: the compositor's loop over no rows takes no turn. -/
theorem drawCompletesWhenTheDisplayAccepts : Obligations.DrawCompletesWhenTheDisplayAccepts := by
  intro s x y n hok
  obtain ⟨hpc, hstatus, hrendering⟩ := composed_render_of_ok (v := s.drawnRegs x y n) (f := (s.drawn x y n).1) hok
  refine ⟨_, exec_drw x y n s, hpc, hstatus, hrendering,
    composed_render_keepsAllButScreen (drawnRegs_sameRegsBut x y n s _), ?_⟩
  rintro rfl
  rw [composed_render_fb, composed_render_reg, drawnRegs_flag]
  exact ⟨rfl, rfl⟩

/-! ### Two draws -/

theorem drw_outcome {s t : State} {x y : Reg} {n : Nibble} (h : exec (.drw x y n) s = .next t) :
    t = (s.composed (s.drawnRegs x y n) (s.drawn x y n).1).renderThenAdvance := by
  simpa only [exec_drw, Host.Outcome.next.injEq, eq_comm] using h

theorem drw_fb {s t : State} {x y : Reg} {n : Nibble} (h : exec (.drw x y n) s = .next t) :
    t.fb = (s.drawn x y n).1 := by
  rw [drw_outcome h, composed_render_fb]

theorem drw_flag {s t : State} {x y : Reg} {n : Nibble} (h : exec (.drw x y n) s = .next t) :
    t.reg Reg.flag = flagByte (s.drawn x y n).2 := by
  rw [drw_outcome h, composed_render_reg, drawnRegs_flag]

/-- A draw keeps memory and I, so a second draw at the same origin covers the same cells. -/
theorem drw_spriteCovers {s t : State} {x y : Reg} {n : Nibble} (h : exec (.drw x y n) s = .next t)
    (hx : t.reg x = s.reg x) (hy : t.reg y = s.reg y) : t.spriteCovers x y n = s.spriteCovers x y n := by
  obtain ⟨hmem, -, hi, -⟩ : KeepsAllButScreen [Reg.flag] s t :=
    drw_outcome h ▸ composed_render_keepsAllButScreen (drawnRegs_sameRegsBut x y n s _)
  unfold State.spriteCovers
  rw [hx, hy, hi, funext hmem]

/-- Settles O43: a covered cell is flipped twice, and the second draw finds it as the first one left it. -/
theorem drawingTwiceRestoresTheScreen : Obligations.DrawingTwiceRestoresTheScreen := by
  classical
  intro s t u x y n hst hx hy htu
  have hcovers := drw_spriteCovers hst hx hy
  refine ⟨?_, ?_⟩
  · refine BitVec.eq_of_getLsbD_eq fun q hq => ?_
    have hsecond := drawn_cell t x y n ⟨q, hq⟩
    have hfirst := drawn_cell s x y n ⟨q, hq⟩
    simp only [hcovers, drw_fb hst] at hsecond
    rw [drw_fb htu, hsecond, hfirst, Bool.xor_assoc, Bool.xor_self, Bool.xor_false]
  · rw [drw_flag htu, flagByte_eq_one_iff, drawn_collision, hcovers, drw_fb hst]
    refine exists_congr fun q => and_congr_right fun hq => ?_
    rw [drawn_cell_lit_iff]
    exact ⟨fun h => h.elim (fun h => absurd hq h.2) And.left, fun h => .inr ⟨h, hq⟩⟩

/-! ### Two origins -/

theorem cell_congr {px px' py py' : Nat} (hx : px % 64 = px' % 64) (hy : py % 32 = py' % 32) :
    cell px py = cell px' py' := by
  apply Fin.ext
  rw [cell_val, cell_val, hx, hy]

/-- The compositor sees its origin through `cell` alone (R190, R191). -/
theorem composite_congr {xs xs' ys ys' : Nat} (n : Nat) (rows : Nat → Byte) (fb : Framebuffer)
    (hx : xs % 64 = xs' % 64) (hy : ys % 32 = ys' % 32) :
    composite xs ys n rows fb = composite xs' ys' n rows fb := by
  have hcell : ∀ c r, cell (xs + c) (ys + r) = cell (xs' + c) (ys' + r) := fun c r =>
    cell_congr (Nat.ModEq.add_right c hx) (Nat.ModEq.add_right r hy)
  unfold composite plotRow
  simp only [hcell]

/-- Settles O44: the two draws are one composition. -/
theorem drawOriginsWrapAround : Obligations.DrawOriginsWrapAround := by
  intro s t s' t' x y n hi hfb hmem hx hy hst hst'
  have hrows : s'.spriteRow = s.spriteRow := funext fun r => by
    rw [State.spriteRow, State.spriteRow, State.dataAddr, State.dataAddr, hi, hmem]
  have hdrawn : s'.drawn x y n = s.drawn x y n := by
    rw [State.drawn_eq, State.drawn_eq, composite_congr _ _ _ hx hy, hrows, hfb]
  rw [drw_fb hst, drw_fb hst', drw_flag hst, drw_flag hst', hdrawn]
  exact ⟨rfl, rfl⟩

end Sys2Proof.Machine
end

section
/-! SUPPORT. Everything `exec` can do, said once (40_dispatch.md R103, R105), and what follows for every instruction:
which registers, which bytes and which special state it writes, where PC ends, and how a run ends. -/

namespace Sys2Proof.Machine

/-! ### What a skip, a result and the transfers keep -/

theorem State.skipIf_pc_cases (s : State) (c : Bool) :
    (s.skipIf c).pc = s.pc + 2 ∨ (s.skipIf c).pc = s.pc + 4 := by
  rw [s.skipIf_pc_of_bool]
  exact (ite_eq_or_eq _ _ _).symm

theorem setResultAndFlag_sameRegsBut (s : State) (x : Reg) (b : Byte) (f : Bool) :
    SameRegsBut [x, Reg.flag] s (s.setResultAndFlag x b f) := by
  obtain ⟨-, hregs, -⟩ := s.setResultAndFlag_advance_keepsAllBut x b f
  exact hregs

theorem loadRegs_sameRegsBut (x : Reg) (s : State) :
    SameRegsBut (writtenRegs (.loadRegs x)) s (forRange State.loadOne (x.val + 1) s).advance := by
  intro r hr
  have hrx : ¬ r ≤ x := by simpa [writtenRegs] using hr
  rw [loadRegs_reg, if_neg hrx]

theorem storeBcd_wf {s : State} (b : Byte) (hs : 0 < s.params.memSize) (h : Memory.wf s.params s.mem) :
    Memory.wf s.params (s.storeBcd b).mem :=
  State.writeMem_wf _ _ hs (State.writeMem_wf _ _ hs (State.writeMem_wf _ _ hs h))

/-! ### Everything an instruction can do -/

/-- `Effect i s t`: one of the ways in which the instruction `i` leads from `s` to `t`. -/
inductive Effect : Instr → State → State → Prop
  /-- It writes general registers, PC and the host's script. -/
  | compute {i : Instr} {s : State} {v : Vector (BitVec Config.vWidth) Config.numV} {w : Word} {h : HostInputs}
      (hregs : SameRegsBut (writtenRegs i) s { s with v := v })
      (hpc : w = s.pc + 2 ∨ (skips i = true ∧ w = s.pc + 4) ∨ setsPc i = true) :
      Effect i s { s with v := v, pc := w, host := h }
  /-- It writes I. -/
  | index {i : Instr} {s : State} {w : Word}
      (hi : (∃ nnn, i = .ldI nnn) ∨ (∃ x, i = .addI x) ∨ ∃ x, i = .ldF x) : Effect i s (s.setI w).advance
  /-- It writes DT. -/
  | delay (x : Reg) (s : State) : Effect (.ldDtVx x) s (s.setDt (s.reg x)).advance
  /-- It writes ST. -/
  | sound (x : Reg) (s : State) : Effect (.ldStVx x) s (s.setSt (s.reg x)).advance
  /-- It writes memory. -/
  | store {i : Instr} {s : State} {m : List Host.Cell}
      (hout : ∀ a, (∀ b ∈ storedAddrs s i, a % s.params.memSize ≠ b % s.params.memSize) →
        State.readMem { s with mem := m } a = s.readMem a)
      (hwf : 0 < s.params.memSize → Memory.wf s.params s.mem → Memory.wf s.params m) :
      Effect i s (State.advance { s with mem := m })
  /-- It pushes its own address on a stack with a slot left. -/
  | push (nnn : Addr12) {s : State} (hroom : s.sp.toNat + 1 < s.params.stackSize) :
      Effect (.call nnn) s (s.called nnn)
  /-- It pops the address to return to. -/
  | pop {s : State} (w : Word) (hsp : s.sp ≠ 0) : Effect .ret s ((s.setPc (w + 2)).setSp (s.sp - 1))
  /-- It composes a buffer and calls the Display, which has accepted it, has not answered, or has answered an error. -/
  | render {i : Instr} {s : State} {v : Vector (BitVec Config.vWidth) Config.numV} {f : Framebuffer} {w : Word}
      {q : Status} {r : Bool} (hi : i = .cls ∨ ∃ x y n, i = .drw x y n)
      (hregs : SameRegsBut (writtenRegs i) s (s.composed v f))
      (hend : (w = s.pc + 2 ∧ q = s.status ∧ r = false) ∨ (w = s.pc ∧ q = s.status ∧ r = true) ∨
        (w = s.pc ∧ (∃ e, q = .halted (.renderFailure e)) ∧ r = false)) :
      Effect i s
        { s with
          v := v, fb := f, pc := w, status := q, rendering := r, host := s.takeRender.host, frames := f :: s.frames }
  /-- It looks at the Keypad, which has given a key, has not answered, or has ended the run. -/
  | keyWait {x : Reg} {s : State} {v : Vector (BitVec Config.vWidth) Config.numV} {w : Word} {q : Status}
      (hregs : SameRegsBut [x] s { s with v := v })
      (hend : (w = s.pc + 2 ∧ q = .running) ∨ (w = s.pc ∧ v = s.v ∧ q = .waitingForKey x) ∨
        (w = s.pc ∧ v = s.v ∧ ∃ o, q = .halted o ∧ (o = .cancellation ∨ ∃ e, o = .keypadFailure e))) :
      Effect (.ldVxK x) s { s with v := v, pc := w, status := q, host := s.takePoll.host }
  /-- It raises an error of its own and writes nothing. -/
  | halt {i : Instr} {s : State} {o : RunOutcome}
      (ho : ((∃ nnn, i = .call nnn) ∧ o = .stackOverflow s.pc) ∨ (i = .ret ∧ o = .stackUnderflow s.pc) ∨
        (s.params.keySkip = false ∧ (∃ x, i = .skp x ∨ i = .sknp x) ∧ o = .unknownOpcode (encode i))) :
      Effect i s (s.raise o)

section
variable {i : Instr} {s t : State}

theorem Effect.skip (c : Bool) {h : HostInputs} (hs : skips i = true) :
    Effect i s (State.skipIf { s with host := h } c) :=
  .compute (fun _ _ => rfl) ((s.skipIf_pc_cases c).imp_right fun hpc => .inl ⟨hs, hpc⟩)

theorem ret_effect (h : exec .ret s = .next t) : Effect .ret s t := by
  by_cases hsp : s.sp = 0
  · rw [exec_ret_of_sp_zero hsp] at h
    cases h
    exact .halt (.inr (.inl ⟨rfl, rfl⟩))
  · cases hslot : s.stack[s.sp.toNat]?
    case none =>
      rw [exec, execRet, if_neg hsp, hslot] at h
      cases h
    case some w =>
      rw [exec_ret_of_slot hsp hslot] at h
      cases h
      exact .pop w hsp

theorem call_effect {nnn : Addr12} (h : exec (.call nnn) s = .next t) : Effect (.call nnn) s t := by
  by_cases hfull : s.sp.toNat + 1 ≥ s.params.stackSize
  · rw [exec_call_of_full nnn hfull] at h
    cases h
    exact .halt (.inl ⟨⟨nnn, rfl⟩, rfl⟩)
  · rw [exec, execCall, if_neg hfull] at h
    split_ifs at h
    cases h
    exact .push nnn (Nat.lt_of_not_le hfull)

/-- SKP and SKNP differ in the condition alone. -/
theorem keySkip_effect {c : Bool} (hi : ∃ x, i = .skp x ∨ i = .sknp x) (hskips : skips i = true)
    (hasked : s.params.keySkip = true → exec i s = .next (s.takeKeyDown.skipIf c))
    (hunknown : s.params.keySkip = false → exec i s = .next (s.raise (.unknownOpcode (encode i))))
    (h : exec i s = .next t) : Effect i s t := by
  cases hkey : s.params.keySkip
  case false =>
    obtain rfl := Host.Outcome.next.inj ((hunknown hkey).symm.trans h)
    exact .halt (.inr (.inr ⟨hkey, hi, rfl⟩))
  case true =>
    obtain rfl := Host.Outcome.next.inj ((hasked hkey).symm.trans h)
    exact .skip c hskips

theorem render_effect {v : Vector (BitVec Config.vWidth) Config.numV} {f : Framebuffer}
    (hi : i = .cls ∨ ∃ x y n, i = .drw x y n) (hregs : SameRegsBut (writtenRegs i) s (s.composed v f)) :
    Effect i s (s.composed v f).renderThenAdvance := by
  rcases (s.composed v f).renderThenAdvance_cases with ⟨-, h⟩ | ⟨-, h⟩ | ⟨e, -, h⟩ <;> rw [h]
  · exact .render hi hregs (.inr (.inl ⟨rfl, rfl, rfl⟩))
  · exact .render hi hregs (.inl ⟨rfl, rfl, rfl⟩)
  · exact .render hi hregs (.inr (.inr ⟨rfl, ⟨e, rfl⟩, rfl⟩))

theorem ldVxK_effect (x : Reg) (s : State) : Effect (.ldVxK x) s (s.awaitKey x) := by
  rcases s.awaitKey_cases x with ⟨-, h⟩ | ⟨k, -, -, h⟩ | ⟨k, -, -, h⟩ | ⟨-, h⟩ | ⟨e, -, h⟩ <;> rw [h]
  · exact .keyWait (fun _ _ => rfl) (.inr (.inl ⟨rfl, rfl, rfl⟩))
  · exact .keyWait (s.setReg_sameRegsBut x _) (.inl ⟨rfl, rfl⟩)
  · exact .keyWait (fun _ _ => rfl) (.inr (.inr ⟨rfl, rfl, _, rfl, .inr ⟨_, rfl⟩⟩))
  · exact .keyWait (fun _ _ => rfl) (.inr (.inr ⟨rfl, rfl, _, rfl, .inl rfl⟩))
  · exact .keyWait (fun _ _ => rfl) (.inr (.inr ⟨rfl, rfl, _, rfl, .inr ⟨_, rfl⟩⟩))

theorem loadRegs_effect (x : Reg) (s : State) :
    Effect (.loadRegs x) s (forRange State.loadOne (x.val + 1) s).advance := by
  have hregs := loadRegs_sameRegsBut x s
  rw [loadLoop_frame] at hregs ⊢
  exact .compute hregs (.inl rfl)

theorem storeRegs_effect (x : Reg) (s : State) :
    Effect (.storeRegs x) s (forRange State.storeOne (x.val + 1) s).advance := by
  have hout := storeLoop_readMem_outside (x.val + 1) s
  have hwf := storeLoop_wf (x.val + 1) s
  rw [storeLoop_frame] at hout hwf ⊢
  refine .store (fun a ha => hout a fun k hk => ha _ ?_) hwf
  exact List.mem_map_of_mem (List.mem_range.2 hk)

theorem ldB_effect (x : Reg) (s : State) : Effect (.ldB x) s (s.storeBcd (s.reg x)).advance := by
  refine .store (fun a ha => storeBcd_readMem_outside s _ fun k hk => ha _ ?_) (storeBcd_wf _)
  exact List.mem_map_of_mem (List.mem_range.2 hk)

/-- What an instruction can do is what its kind can do. -/
theorem exec_effect (h : exec i s = .next t) : Effect i s t := by
  cases i
  case ret => exact ret_effect h
  case call => exact call_effect h
  case skp x => exact keySkip_effect ⟨x, .inl rfl⟩ rfl (exec_skp x) (exec_skp_of_unknown x) h
  case sknp x => exact keySkip_effect ⟨x, .inr rfl⟩ rfl (exec_sknp x) (exec_sknp_of_unknown x) h
  all_goals obtain rfl := Host.Outcome.next.inj h
  case cls => exact render_effect (.inl rfl) fun _ _ => rfl
  case drw x y n => exact render_effect (.inr ⟨x, y, n, rfl⟩) (drawnRegs_sameRegsBut x y n s _)
  case jp | jpV0 => exact .compute (fun _ _ => rfl) (.inr (.inr rfl))
  case seByte | sneByte | seReg | sneReg => exact .skip _ rfl
  case addReg | sub | shr | subn | shl => exact .compute (setResultAndFlag_sameRegsBut s _ _ _) (.inl rfl)
  case ldI nnn => exact .index (.inl ⟨nnn, rfl⟩)
  case addI x => exact .index (.inr (.inl ⟨x, rfl⟩))
  case ldF x => exact .index (.inr (.inr ⟨x, rfl⟩))
  case ldDtVx x => exact .delay x s
  case ldStVx x => exact .sound x s
  case ldVxK x => exact ldVxK_effect x s
  case ldB x => exact ldB_effect x s
  case storeRegs x => exact storeRegs_effect x s
  case loadRegs x => exact loadRegs_effect x s
  all_goals exact .compute (s.setReg_sameRegsBut _ _) (.inl rfl)

end

end Sys2Proof.Machine
end

section
/-! SUPPORT. The rules about every instruction (10_state.md R21, R28 to R35; 20_memory.md R51; 40_dispatch.md R105;
60_exceptions.md R232, R242, R243), each by the kinds of `Effect`. -/

namespace Sys2Proof.Machine

/-- Settles O52: a kind that writes registers says which; the others keep them all. -/
theorem onlyNamedRegistersAreWritten : Obligations.OnlyNamedRegistersAreWritten := by
  intro i s t h
  cases exec_effect h
  case compute hregs _ => exact hregs
  case render _ hregs => exact hregs
  case keyWait hregs _ => exact hregs
  all_goals exact fun _ _ => rfl

/-- Settles O53: the stores say which bytes they leave; no other kind writes memory. -/
theorem onlyStoredBytesChange : Obligations.OnlyStoredBytesChange := by
  intro i s t h
  cases exec_effect h
  case store _ hout => exact hout
  all_goals exact fun _ _ => rfl

/-! ### Special state -/

section
variable {i : Instr} {s t : State}

theorem exec_sameStack (h : exec i s = .next t) (hret : i ≠ .ret) (hcall : ∀ nnn, i ≠ .call nnn) : SameStack s t := by
  cases exec_effect h
  case push nnn _ => exact absurd rfl (hcall nnn)
  case pop => exact absurd rfl hret
  all_goals exact ⟨rfl, rfl⟩

theorem exec_sameScreen (h : exec i s = .next t) (hi : ¬ (i = .cls ∨ ∃ x y n, i = .drw x y n)) : SameScreen s t := by
  cases exec_effect h
  case render => contradiction
  all_goals exact ⟨rfl, rfl, rfl⟩

theorem exec_i (h : exec i s = .next t) (hi : ¬ ((∃ nnn, i = .ldI nnn) ∨ (∃ x, i = .addI x) ∨ ∃ x, i = .ldF x)) :
    t.i = s.i := by
  cases exec_effect h
  case index => contradiction
  all_goals rfl

theorem exec_dt_cases (h : exec i s = .next t) : t.dt = s.dt ∨ ∃ x, i = .ldDtVx x ∧ t.dt = s.reg x := by
  cases exec_effect h
  case delay x => exact .inr ⟨x, rfl, rfl⟩
  all_goals exact .inl rfl

theorem exec_st_cases (h : exec i s = .next t) : t.st = s.st ∨ ∃ x, i = .ldStVx x ∧ t.st = s.reg x := by
  cases exec_effect h
  case sound x => exact .inr ⟨x, rfl, rfl⟩
  all_goals exact .inl rfl

theorem exec_stopRequested_params (h : exec i s = .next t) :
    t.stopRequested = s.stopRequested ∧ t.params = s.params := by
  cases exec_effect h <;> exact ⟨rfl, rfl⟩

end

/-- Settles O54: each piece of special state is written by kinds that name their instructions. -/
theorem specialStateHasItsOwnWriters : Obligations.SpecialStateHasItsOwnWriters := by
  intro i s t h
  refine ⟨exec_sameStack h, fun hcls hdrw => exec_sameScreen h ?_, fun hldI haddI hldF => exec_i h ?_,
    fun hldDt => (exec_dt_cases h).resolve_right fun ⟨x, hi, _⟩ => hldDt x hi,
    fun hldSt => (exec_st_cases h).resolve_right fun ⟨x, hi, _⟩ => hldSt x hi, exec_stopRequested_params h⟩
  · rintro (hi | ⟨x, y, n, hi⟩)
    · exact hcls hi
    · exact hdrw x y n hi
  · rintro (⟨nnn, hi⟩ | ⟨x, hi⟩ | ⟨x, hi⟩)
    · exact hldI nnn hi
    · exact haddI x hi
    · exact hldF x hi

/-! ### Where PC ends -/

/-- Settles O55: only a look at the Display, a look at the Keypad and an error can keep PC. -/
theorem nextPcFollowsTheRules : Obligations.NextPcFollowsTheRules := by
  intro i s t hrun hrender h
  cases exec_effect h
  case compute _ hpc => exact .inl ⟨hrun, hrender, hpc⟩
  case push => exact .inl ⟨hrun, hrender, .inr (.inr rfl)⟩
  case pop => exact .inl ⟨hrun, hrender, .inr (.inr rfl)⟩
  case render hend _ =>
    obtain ⟨rfl, rfl, rfl⟩ | ⟨rfl, rfl, rfl⟩ | ⟨rfl, ⟨e, rfl⟩, rfl⟩ := hend
    · exact .inl ⟨hrun, rfl, .inl rfl⟩
    · exact .inr ⟨.inr rfl, rfl⟩
    · exact .inr ⟨.inl nofun, rfl⟩
  case keyWait hend =>
    obtain ⟨rfl, rfl⟩ | ⟨rfl, -, rfl⟩ | ⟨rfl, -, o, rfl, -⟩ := hend
    · exact .inl ⟨rfl, hrender, .inl rfl⟩
    · exact .inr ⟨.inl nofun, rfl⟩
    · exact .inr ⟨.inl nofun, rfl⟩
  case halt => exact .inr ⟨.inl nofun, rfl⟩
  all_goals exact .inl ⟨hrun, hrender, .inl rfl⟩

/-! ### How a run ends -/

theorem cls_fb {s t : State} (h : exec .cls s = .next t) : t.fb = 0 := by
  obtain rfl := Host.Outcome.next.inj ((exec_cls s).symm.trans h)
  exact composed_render_fb

/-- CLS and DRW end a run by the Display's error alone, and keep what they keep in every case (R237). -/
theorem render_of_halted {i : Instr} {s t : State} {o : RunOutcome} (hi : i = .cls ∨ ∃ x y n, i = .drw x y n)
    (hrun : s.status = .running) (h : exec i s = .next t) (hhalted : t.status = .halted o) :
    (∃ e, o = .renderFailure e) ∧ t.pc = s.pc ∧ KeepsAllButScreen (writtenRegs i) s t := by
  obtain ⟨v, f, hexec, hregs⟩ := exec_render hi s
  obtain rfl := Host.Outcome.next.inj (hexec.symm.trans h)
  have hkeeps := composed_render_keepsAllButScreen hregs
  rcases (s.composed v f).renderThenAdvance_cases with ⟨-, hs⟩ | ⟨-, hs⟩ | ⟨e, -, hs⟩ <;>
    rw [hs] at hhalted hkeeps ⊢
  · exact absurd (hrun.symm.trans hhalted) nofun
  · exact absurd (hrun.symm.trans hhalted) nofun
  · cases hhalted
    exact ⟨⟨e, rfl⟩, rfl, hkeeps⟩

/-- Settles O56: of the kinds, only three can leave a Running core halted. -/
theorem errorsArePrecise : Obligations.ErrorsArePrecise := by
  intro i s t o hrun h hhalted
  have hlive : s.status ≠ .halted o := hrun ▸ nofun
  cases exec_effect h
  case render hi _ _ =>
    obtain ⟨herror, hpc, hkeeps⟩ := render_of_halted hi hrun h hhalted
    obtain rfl | ⟨x, y, n, rfl⟩ := hi
    · exact .inr (.inr (.inr (.inl ⟨rfl, herror, cls_fb h, hpc, hkeeps⟩)))
    · exact .inr (.inr (.inr (.inr (.inl ⟨⟨x, y, n, rfl, drw_fb h, drw_flag h⟩, herror, hpc, hkeeps⟩))))
  case keyWait x _ _ _ _ hend =>
    obtain ⟨-, rfl⟩ | ⟨-, -, rfl⟩ | ⟨rfl, rfl, _, rfl, ho⟩ := hend <;> cases hhalted
    exact .inr (.inr (.inl ⟨⟨x, rfl⟩, ho, rfl⟩))
  case halt ho =>
    cases hhalted
    obtain ⟨hi, rfl⟩ | ⟨hi, rfl⟩ | ⟨hkey, hi, rfl⟩ := ho
    · exact .inl ⟨hi, rfl, rfl⟩
    · exact .inr (.inl ⟨hi, rfl, rfl⟩)
    · exact .inr (.inr (.inr (.inr (.inr ⟨hkey, hi, rfl, rfl⟩))))
  all_goals exact absurd hhalted hlive

end Sys2Proof.Machine
end

section
/-! SUPPORT. The loop (40_dispatch.md R108, R110, R114; 45_timers_keypad.md R218): the boundary, everything `step` can
do, said once, and what every step and every run keeps. -/

namespace Sys2Proof.Machine

/-! ### The boundary -/

theorem timerTick_iterate_toNat (n : Nat) (b : Byte) : (timerTick^[n] b).toNat = b.toNat - n := by
  induction n with
  | zero => rfl
  | succ n ih => rw [Function.iterate_succ_apply', timerTick_toNat, ih, Nat.sub_sub]

/-- `n` steps at once are `n` single steps (R218). -/
theorem countDown_eq_iterate (n : Nat) (b : Byte) : countDown n b = timerTick^[n] b :=
  BitVec.eq_of_toNat_eq (by rw [countDown_toNat, timerTick_iterate_toNat])

/-- Settles O50: the agent's count at once is the iterated step; the rest is the boundary's frame. -/
theorem timerAgentCountsDownToZero : Obligations.TimerAgentCountsDownToZero := by
  refine ⟨timerTick_toNat, State.hostActs_frame, fun s => ?_⟩
  obtain ⟨hmodel, hdt, hst⟩ | ⟨hmodel, hdt, hst⟩ := s.hostActs_timers <;> rw [hmodel]
  · rw [hdt, hst, countDown_eq_iterate, countDown_eq_iterate]
    exact ⟨fun _ => ⟨rfl, rfl⟩, nofun⟩
  · exact ⟨nofun, fun _ => ⟨hdt, hst⟩⟩

theorem hostActs_timers_le (s : State) :
    s.hostActs.dt.toNat ≤ s.dt.toNat ∧ s.hostActs.st.toNat ≤ s.st.toNat := by
  obtain ⟨-, hdt, hst⟩ | ⟨-, hdt, hst⟩ := s.hostActs_timers <;> rw [hdt, hst]
  · rw [countDown_toNat, countDown_toNat]
    exact ⟨Nat.sub_le _ _, Nat.sub_le _ _⟩
  · exact ⟨Nat.le_refl _, Nat.le_refl _⟩

/-! ### Everything a step can do -/

section
variable {s t : State}

theorem step_of_rendering (hrun : s.status = .running) (hrender : s.rendering = true) :
    step s = .next s.awaitDisplay := by
  simp only [step, loopStep, hrun, hrender, if_true]

theorem step_of_stop (hrun : s.status = .running) (hrender : s.rendering = false)
    (hstop : s.hostActs.stopRequested = true) : step s = .next (s.hostActs.raise .cancellation) := by
  simp only [step, loopStep, hrun, hrender, runningStep, hstop, Bool.false_eq_true, if_true, if_false]

theorem step_of_decode {i : Instr} (hrun : s.status = .running) (hrender : s.rendering = false)
    (hstop : s.hostActs.stopRequested = false) (hdecode : decodeWord s.params.keySkip s.fetchWord = .ok i) :
    step s = exec i s.hostActs := by
  rw [step_eq_dispatchWord hrun hrender hstop, dispatchWord, State.hostActs_params, hdecode]

theorem step_of_decode_error {e : DecodeError} (hrun : s.status = .running) (hrender : s.rendering = false)
    (hstop : s.hostActs.stopRequested = false) (hdecode : decodeWord s.params.keySkip s.fetchWord = .error e) :
    step s = .next (s.hostActs.raise (.unknownOpcode s.fetchWord)) := by
  rw [step_eq_dispatchWord hrun hrender hstop, dispatchWord_of_decode_error (by rwa [State.hostActs_params])]

theorem step_of_waiting {x : Reg} (hwait : s.status = .waitingForKey x) : step s = exec (.ldVxK x) s.hostActs := by
  simp only [step, loopStep, hwait]
  rfl

theorem step_of_halted {o : RunOutcome} (hhalted : s.status = .halted o) : step s = .refused .haltedCore := by
  simp only [step, loopStep, hhalted]

/-- The instruction that a step from `s` runs, or takes up again: the one at PC, or the LD Vx, K it waits in. -/
def State.TakesUp (s : State) (i : Instr) : Prop :=
  (s.status = .running ∧ s.rendering = false ∧ decodeWord s.params.keySkip s.fetchWord = .ok i) ∨
    ∃ x, s.status = .waitingForKey x ∧ i = .ldVxK x

/-- `StepEffect s t`: one of the ways in which a step leads from `s` to `t`. -/
inductive StepEffect (s : State) : State → Prop
  /-- It looks at the Display again. -/
  | look (hrun : s.status = .running) (hrender : s.rendering = true) : StepEffect s s.awaitDisplay
  /-- It ends the run: a stop request, or a word that is no instruction. -/
  | ended (o : RunOutcome) (hrender : s.rendering = false) : StepEffect s (s.hostActs.raise o)
  /-- It runs an instruction on the state the boundary leaves. -/
  | ran {i : Instr} {t : State} (hi : s.TakesUp i) (h : exec i s.hostActs = .next t) : StepEffect s t

theorem step_effect (h : step s = .next t) : StepEffect s t := by
  cases hstatus : s.status
  case halted o =>
    rw [step_of_halted hstatus] at h
    cases h
  case waitingForKey x => exact .ran (.inr ⟨x, hstatus, rfl⟩) (step_of_waiting hstatus ▸ h)
  case running =>
    cases hrender : s.rendering
    case true =>
      obtain rfl := Host.Outcome.next.inj ((step_of_rendering hstatus hrender).symm.trans h)
      exact .look hstatus hrender
    case false =>
      cases hstop : s.hostActs.stopRequested
      case true =>
        obtain rfl := Host.Outcome.next.inj ((step_of_stop hstatus hrender hstop).symm.trans h)
        exact .ended _ hrender
      case false =>
        cases hdecode : decodeWord s.params.keySkip s.fetchWord
        case ok i =>
          exact .ran (.inl ⟨hstatus, hrender, hdecode⟩) (step_of_decode hstatus hrender hstop hdecode ▸ h)
        case error e =>
          obtain rfl := Host.Outcome.next.inj ((step_of_decode_error hstatus hrender hstop hdecode).symm.trans h)
          exact .ended _ hrender

end

/-! ### Single steps -/

/-- Settles O9: with no stop request the boundary's frame leaves the stop flag too as it was. -/
theorem stepRunsTheDecodedInstruction : Obligations.StepRunsTheDecodedInstruction := by
  intro s i hrun hrender hstop hdecode
  refine ⟨step_of_decode hrun hrender hstop hdecode, ?_⟩
  have hflag : (s.stopRequested || s.nextAct.stop) = s.stopRequested := by
    rw [State.hostActs_stopRequested] at hstop
    rw [hstop, (Bool.or_eq_false_iff.1 hstop).1]
  have hframe := s.hostActs_frame
  rwa [hflag] at hframe

/-- Settles O11: the flag is read before the fetch. -/
theorem stopRequestEndsTheRunAtTheBoundary : Obligations.StopRequestEndsTheRunAtTheBoundary :=
  ⟨State.hostActs_stopRequested, fun s hrun hrender hstop =>
    ⟨_, step_of_stop hrun hrender hstop, s.hostActs.raise_onlyEndsTheRun _⟩⟩

/-- Settles O13: the loop's arm of a halted core is a refusal. -/
theorem haltedCoreHasNoStep : Obligations.HaltedCoreHasNoStep := by
  intro s t o hhalted
  rw [step_of_halted hhalted]
  exact ⟨rfl, nofun⟩

/-- Settles O14: both waits are taken up by the operations that began them. -/
theorem waitingCoreLooksAgain : Obligations.WaitingCoreLooksAgain := by
  refine ⟨fun s x hwait => ⟨step_of_waiting hwait, _, step_of_waiting hwait⟩, fun s i hi hpending => ?_,
    fun s hrun hrender => ⟨fun hok => ?_, fun e herror => ?_, fun hpending => ?_⟩⟩
  · obtain ⟨v, f, hexec, hregs⟩ := exec_render hi s
    obtain ⟨hrendering, hpc, hstatus⟩ := composed_render_of_pending (v := v) (f := f) hpending
    exact ⟨_, hexec, hrendering, hpc, hstatus, composed_render_keepsAllButScreen hregs⟩
  · rw [step_of_rendering hrun hrender, awaitDisplay_of_ok hok]
  · rw [step_of_rendering hrun hrender, awaitDisplay_of_error herror]
  · rw [step_of_rendering hrun hrender, awaitDisplay_of_pending hpending, ← hrender]
    rfl

/-! ### What every step keeps -/

/-- Settles O12: the boundary may set the flag, no kind of step clears it, and none writes the parameters. -/
theorem stepsKeepTheStopFlagAndTheParameters : Obligations.StepsKeepTheStopFlagAndTheParameters := by
  intro s t h
  have hboundary : s.stopRequested = true → s.hostActs.stopRequested = true := fun hstop => by
    rw [State.hostActs_stopRequested, hstop, Bool.true_or]
  cases step_effect h
  case look =>
    rw [State.awaitDisplay_frame]
    exact ⟨id, rfl⟩
  case ended => exact ⟨hboundary, s.hostActs_params⟩
  case ran i hi hexec =>
    obtain ⟨hstop, hparams⟩ := exec_stopRequested_params hexec
    exact ⟨fun hs => hstop.trans (hboundary hs), hparams.trans s.hostActs_params⟩

/-- Settles O15: CLS and DRW show the buffer they leave; nothing else writes the buffer or shows one. -/
theorem framesAreTheRenderedBuffers : Obligations.FramesAreTheRenderedBuffers := by
  intro s t h
  cases step_effect h
  case look =>
    rw [State.awaitDisplay_frame]
    exact .inl ⟨rfl, rfl⟩
  case ended => exact .inl ⟨s.hostActs_frames, s.hostActs_fb⟩
  case ran i hi hexec =>
    rw [← s.hostActs_frames, ← s.hostActs_fb]
    by_cases hrender : i = .cls ∨ ∃ x y n, i = .drw x y n
    · obtain ⟨v, f, hcomposed, hregs⟩ := exec_render hrender s.hostActs
      obtain rfl := Host.Outcome.next.inj (hcomposed.symm.trans hexec)
      obtain ⟨-, -, -, -, -, -, -, hframes, -⟩ := composed_render_keepsAllButScreen hregs
      exact .inr hframes
    · obtain ⟨hfb, hframes, -⟩ := exec_sameScreen hexec hrender
      exact .inl ⟨hframes, hfb⟩

theorem State.TakesUp.of_ne_ldVxK {s : State} {i : Instr} (h : s.TakesUp i) (hi : ∀ x, i ≠ .ldVxK x) :
    s.status = .running ∧ decodeWord s.params.keySkip s.fetchWord = .ok i := by
  obtain ⟨hrun, -, hdecode⟩ | ⟨x, -, hx⟩ := h
  · exact ⟨hrun, hdecode⟩
  · exact absurd hx (hi x)

/-- Settles O51: the boundary and every other instruction leave the timer no higher. -/
theorem timersRiseOnlyByTheirInstructions : Obligations.TimersRiseOnlyByTheirInstructions := by
  intro s t h
  obtain ⟨hdt, hst⟩ := hostActs_timers_le s
  cases step_effect h
  case look =>
    rw [State.awaitDisplay_frame]
    exact ⟨fun hrise => absurd hrise (Nat.lt_irrefl _), fun hrise => absurd hrise (Nat.lt_irrefl _)⟩
  case ended =>
    exact ⟨fun hrise => absurd hrise (Nat.not_lt_of_le hdt), fun hrise => absurd hrise (Nat.not_lt_of_le hst)⟩
  case ran i hi hexec =>
    refine ⟨fun hrise => ?_, fun hrise => ?_⟩
    · obtain hkept | ⟨x, rfl, hset⟩ := exec_dt_cases hexec
      · exact absurd (hkept ▸ hrise) (Nat.not_lt_of_le hdt)
      · obtain ⟨hrun, hdecode⟩ := hi.of_ne_ldVxK nofun
        exact ⟨hrun, x, hdecode, hset.trans (s.hostActs_reg x)⟩
    · obtain hkept | ⟨x, rfl, hset⟩ := exec_st_cases hexec
      · exact absurd (hkept ▸ hrise) (Nat.not_lt_of_le hst)
      · obtain ⟨hrun, hdecode⟩ := hi.of_ne_ldVxK nofun
        exact ⟨hrun, x, hdecode, hset.trans (s.hostActs_reg x)⟩

/-! ### The invariant -/

/-- The invariant speaks of the parameters, memory and the stack alone. -/
theorem Inv.of_eq {s t : State} (h : Inv s) (hparams : t.params = s.params) (hmem : t.mem = s.mem)
    (hstack : t.stack = s.stack) (hsp : t.sp = s.sp) : Inv t := by
  obtain ⟨hp, hm, hlen, hinside, hzero⟩ := h
  exact ⟨hparams ▸ hp, hparams ▸ hmem ▸ hm, hparams ▸ hstack ▸ hlen, hparams ▸ hsp ▸ hinside, hstack ▸ hzero⟩

theorem Inv.hostActs {s : State} (h : Inv s) : Inv s.hostActs :=
  h.of_eq s.hostActs_params s.hostActs_mem s.hostActs_stack s.hostActs_sp

/-- CALL writes a slot above SP, which is not slot 0 (R28). -/
theorem Inv.called {s : State} (h : Inv s) (nnn : Addr12) (hroom : s.sp.toNat + 1 < s.params.stackSize) :
    Inv (s.called nnn) := by
  obtain ⟨hparams, hmem, hlen, -, hzero⟩ := h
  have ⟨_, _, hsize⟩ := hparams
  refine ⟨hparams, hmem, List.length_set.trans hlen, ?_, ?_⟩
  · rw [called_sp_toNat nnn hroom hsize]
    exact hroom
  · exact (List.getElem?_set_ne (Nat.succ_ne_zero _)).trans hzero

theorem Inv.popped {s : State} (h : Inv s) (w : Word) (hsp : s.sp ≠ 0) : Inv ((s.setPc w).setSp (s.sp - 1)) := by
  obtain ⟨hparams, hmem, hlen, hinside, hzero⟩ := h
  refine ⟨hparams, hmem, hlen, ?_, hzero⟩
  rw [State.setSp_sp, toNat_sub_one_of_ne_zero hsp]
  exact Nat.lt_of_le_of_lt (Nat.sub_le _ _) hinside

theorem Inv.exec {i : Instr} {s t : State} (h : Inv s) (hexec : exec i s = .next t) : Inv t := by
  cases exec_effect hexec
  case store hwf _ =>
    obtain ⟨hparams, hmem, hlen, hinside, hzero⟩ := h
    have ⟨hsize, _, _⟩ := hparams
    exact ⟨hparams, hwf (Nat.lt_of_lt_of_le (by decide) hsize) hmem, hlen, hinside, hzero⟩
  case push nnn hroom => exact h.called nnn hroom
  case pop w hsp => exact h.popped _ hsp
  all_goals exact h.of_eq rfl rfl rfl rfl

/-- Settles O17: the boundary touches nothing the invariant speaks of, and every kind of instruction keeps it. -/
theorem everyStepKeepsTheInvariant : Obligations.EveryStepKeepsTheInvariant := by
  intro s t hinv h
  cases step_effect h
  case look =>
    rw [State.awaitDisplay_frame]
    exact hinv.of_eq rfl rfl rfl rfl
  case ended => exact hinv.hostActs.of_eq rfl rfl rfl rfl
  case ran i hi hexec => exact hinv.hostActs.exec hexec

/-! ### Progress and runs -/

/-- The invariant gives the slots that RET and CALL name; no other instruction can fail (R28, R103). -/
theorem Inv.exec_isNext {s : State} (h : Inv s) (i : Instr) : ∃ t, Machine.exec i s = .next t := by
  obtain ⟨-, -, hlen, hinside, -⟩ := h
  cases i
  case ret =>
    by_cases hsp : s.sp = 0
    · exact ⟨_, exec_ret_of_sp_zero hsp⟩
    · exact ⟨_, exec_ret_of_slot hsp (List.getElem?_eq_getElem (hlen ▸ hinside))⟩
  case call nnn =>
    by_cases hfull : s.params.stackSize ≤ s.sp.toNat + 1
    · exact ⟨_, exec_call_of_full nnn hfull⟩
    · exact ⟨_, exec_call_of_room nnn (Nat.lt_of_not_le hfull) hlen⟩
  case skp x =>
    cases hkey : s.params.keySkip
    · exact ⟨_, exec_skp_of_unknown x hkey⟩
    · exact ⟨_, exec_skp x hkey⟩
  case sknp x =>
    cases hkey : s.params.keySkip
    · exact ⟨_, exec_sknp_of_unknown x hkey⟩
    · exact ⟨_, exec_sknp x hkey⟩
  all_goals exact ⟨_, rfl⟩

/-- Settles O19: every way a live core steps is a next state once every instruction's is. -/
theorem soundCoreAlwaysSteps : Obligations.SoundCoreAlwaysSteps := by
  intro s hinv hlive
  cases hstatus : s.status
  case halted o => exact absurd hstatus (hlive o)
  case waitingForKey x =>
    rw [step_of_waiting hstatus]
    exact hinv.hostActs.exec_isNext _
  case running =>
    cases hrender : s.rendering
    case true => exact ⟨_, step_of_rendering hstatus hrender⟩
    case false =>
      cases hstop : s.hostActs.stopRequested
      case true => exact ⟨_, step_of_stop hstatus hrender hstop⟩
      case false =>
        cases hdecode : decodeWord s.params.keySkip s.fetchWord
        case error e => exact ⟨_, step_of_decode_error hstatus hrender hstop hdecode⟩
        case ok i =>
          rw [step_of_decode hstatus hrender hstop hdecode]
          exact hinv.hostActs.exec_isNext i

theorem runLoop_zero_of_live {s : State} (h : Live s) : runLoop 0 s = .underWay s := by
  cases hstatus : s.status
  case halted o => exact absurd hstatus (h o)
  all_goals simp only [runLoop, hstatus]

theorem runLoop_succ_of_live {s t : State} (n : Nat) (h : Live s) (hstep : step s = .next t) :
    runLoop (n + 1) s = runLoop n t := by
  cases hstatus : s.status
  case halted o => exact absurd hstatus (h o)
  all_goals simp only [runLoop, hstatus, hstep]

theorem runLoop_of_halted {s : State} {o : RunOutcome} (n : Nat) (h : s.status = .halted o) :
    runLoop n s = .returned o s := by
  cases n <;> simp only [runLoop, h]

theorem live_or_halted (s : State) : Live s ∨ ∃ o, s.status = .halted o := by
  rw [Live, ← not_exists]
  exact (Classical.em _).symm

/-- How a run of a sound core stands after any number of steps. -/
theorem runLoop_of_inv (n : Nat) {s : State} (hinv : Inv s) :
    (∃ o t, runLoop n s = .returned o t ∧ t.status = .halted o ∧ Inv t) ∨
      (∃ t, runLoop n s = .underWay t ∧ Live t ∧ Inv t) := by
  induction n generalizing s with
  | zero =>
    obtain hlive | ⟨o, ho⟩ := live_or_halted s
    · exact .inr ⟨s, runLoop_zero_of_live hlive, hlive, hinv⟩
    · exact .inl ⟨o, s, runLoop_of_halted 0 ho, ho, hinv⟩
  | succ n ih =>
    obtain hlive | ⟨o, ho⟩ := live_or_halted s
    · obtain ⟨t, hstep⟩ := soundCoreAlwaysSteps s hinv hlive
      rw [runLoop_succ_of_live n hlive hstep]
      exact ih (everyStepKeepsTheInvariant s t hinv hstep)
    · exact .inl ⟨o, s, runLoop_of_halted (n + 1) ho, ho, hinv⟩

/-- Settles O20: a sound core steps as long as it lives, and its steps keep it sound. -/
theorem runReturnsHaltedOrGoesOn : Obligations.RunReturnsHaltedOrGoesOn :=
  ⟨fun _ => runLoop_zero_of_live, fun n _ _ => runLoop_succ_of_live n, fun n _ _ => runLoop_of_halted n,
    fun n _ => runLoop_of_inv n⟩

/-! ### Where a waiting core stands -/

theorem waitsAtItsInstruction_of_no_wait {t : State} (hstatus : ∀ x, t.status ≠ .waitingForKey x)
    (hrender : t.rendering = false) : WaitsAtItsInstruction t :=
  ⟨fun x hx => absurd hx (hstatus x), fun h => absurd (hrender.symm.trans h) Bool.false_ne_true⟩

theorem waitsAtItsInstruction_of_running {t : State} (hrun : t.status = .running) (hrender : t.rendering = false) :
    WaitsAtItsInstruction t :=
  waitsAtItsInstruction_of_no_wait (fun _ hx => absurd (hrun.symm.trans hx) nofun) hrender

/-- A look at the Keypad that leaves the core waiting keeps PC and memory, and so the word at PC. -/
theorem awaitKey_waitsAtItsInstruction {s : State} {x : Reg} (hrender : s.rendering = false)
    (hdecode : decodeWord s.params.keySkip s.fetchWord = .ok (.ldVxK x)) :
    WaitsAtItsInstruction (s.awaitKey x) := by
  rcases s.awaitKey_cases x with ⟨-, h⟩ | ⟨k, -, -, h⟩ | ⟨k, -, -, h⟩ | ⟨-, h⟩ | ⟨e, -, h⟩ <;> rw [h]
  case inl =>
    refine ⟨fun y hy => ?_, fun h => absurd (hrender.symm.trans h) Bool.false_ne_true⟩
    cases hy
    exact hdecode
  all_goals exact waitsAtItsInstruction_of_no_wait nofun hrender

/-- CLS and DRW left waiting for the Display keep PC and memory, and so the word at PC. -/
theorem exec_waitsAtItsInstruction {i : Instr} {s t : State} (hrun : s.status = .running)
    (hrender : s.rendering = false) (hdecode : decodeWord s.params.keySkip s.fetchWord = .ok i)
    (h : exec i s = .next t) : WaitsAtItsInstruction t := by
  cases exec_effect h
  case render hi hend _ =>
    obtain ⟨rfl, rfl, rfl⟩ | ⟨rfl, rfl, rfl⟩ | ⟨rfl, ⟨e, rfl⟩, rfl⟩ := hend
    · exact waitsAtItsInstruction_of_running hrun rfl
    · refine ⟨fun x hx => absurd (hrun.symm.trans hx) nofun, fun _ => ⟨hrun, hi.imp ?_ ?_⟩⟩
      · exact fun hcls => hdecode.trans (congrArg Except.ok hcls)
      · exact fun ⟨x, y, n, hdrw⟩ => ⟨x, y, n, hdecode.trans (congrArg Except.ok hdrw)⟩
    · exact waitsAtItsInstruction_of_no_wait nofun rfl
  case keyWait x _ _ _ _ _ =>
    obtain hwait : s.awaitKey x = _ := Host.Outcome.next.inj h
    exact hwait ▸ awaitKey_waitsAtItsInstruction hrender hdecode
  case halt => exact waitsAtItsInstruction_of_no_wait nofun hrender
  all_goals exact waitsAtItsInstruction_of_running hrun hrender

/-- A look at the Display that finds no answer keeps PC and memory, and so the word at PC. -/
theorem awaitDisplay_waitsAtItsInstruction {s : State} (h : WaitsAtItsInstruction s) (hrun : s.status = .running)
    (hrender : s.rendering = true) : WaitsAtItsInstruction s.awaitDisplay := by
  rcases s.awaitDisplay_cases with ⟨-, hs⟩ | ⟨-, hs⟩ | ⟨e, -, hs⟩ <;> rw [hs]
  · obtain ⟨hkey, hdisplay⟩ := h
    exact ⟨hkey, fun _ => hdisplay hrender⟩
  · exact waitsAtItsInstruction_of_running hrun rfl
  · exact waitsAtItsInstruction_of_no_wait nofun rfl

/-- Settles O18: the boundary keeps PC and memory, and each wait is left or taken up at its own word. -/
theorem waitingCoreStandsAtItsInstruction : Obligations.WaitingCoreStandsAtItsInstruction := by
  refine ⟨waitsAtItsInstruction_of_no_wait nofun rfl, fun s t hs h => ?_⟩
  cases step_effect h
  case look hrun hrender => exact awaitDisplay_waitsAtItsInstruction hs hrun hrender
  case ended o hrender => exact waitsAtItsInstruction_of_no_wait nofun (s.hostActs_rendering.trans hrender)
  case ran i hi hexec =>
    obtain ⟨hrun, hrender, hdecode⟩ | ⟨x, hwait, rfl⟩ := hi
    · refine exec_waitsAtItsInstruction (s.hostActs_status.trans hrun) (s.hostActs_rendering.trans hrender) ?_ hexec
      rw [State.hostActs_params, State.hostActs_fetchWord, hdecode]
    · obtain ⟨hkey, hdisplay⟩ := hs
      have hrender : s.rendering = false := Bool.eq_false_iff.2 fun hrender =>
        absurd (hwait.symm.trans (hdisplay hrender).1) nofun
      obtain rfl := Host.Outcome.next.inj hexec
      refine awaitKey_waitsAtItsInstruction (s.hostActs_rendering.trans hrender) ?_
      rw [State.hostActs_params, State.hostActs_fetchWord, hkey x hwait]

end Sys2Proof.Machine
end

section
/-! SUPPORT. The host's answers (60_exceptions.md R246; 42_alu.md R153; 45_timers_keypad.md R210, R211): a script of one
entry is what the next call answers, so every answer can be given. -/

namespace Sys2Proof.Machine

theorem rnd_admits (s : State) (x : Reg) (b : Byte) :
    ∃ h t, exec (.rnd x 0xFF) { s with host := h } = .next t ∧ t.reg x = b := by
  refine ⟨{ s.host with rng := [b] }, _, exec_rnd x 0xFF _, ?_⟩
  rw [State.setReg_advance_reg_self]
  exact BitVec.and_allOnes

theorem skp_admits {s : State} (hkey : s.params.keySkip = true) (x : Reg) (down : Bool) :
    ∃ h t, exec (.skp x) { s with host := h } = .next t ∧ t.pc = (if down then s.pc + 4 else s.pc + 2) :=
  ⟨{ s.host with keyDowns := [down] }, _, exec_skp x hkey, State.skipIf_pc_of_bool _ down⟩

theorem sknp_admits {s : State} (hkey : s.params.keySkip = true) (x : Reg) (down : Bool) :
    ∃ h t, exec (.sknp x) { s with host := h } = .next t ∧ t.pc = (if down then s.pc + 2 else s.pc + 4) :=
  ⟨{ s.host with keyDowns := [down] }, _, exec_sknp x hkey, State.skipIf_not_pc _ down⟩

/-- `s` with one answer of the Display scripted. -/
def State.scriptRender (s : State) (a : RenderAnswer) : State := { s with host := { s.host with renders := [a] } }

/-- `s` with one answer of getKey scripted. -/
def State.scriptPoll (s : State) (a : KeyPoll) : State := { s with host := { s.host with polls := [a] } }

theorem scriptRender_nextRender (s : State) (a : RenderAnswer) : (s.scriptRender a).nextRender = a := rfl

theorem scriptPoll_nextPoll (s : State) (a : KeyPoll) : (s.scriptPoll a).nextPoll = a := rfl

section
variable {i : Instr} (hi : i = .cls ∨ ∃ x y n, i = .drw x y n) (s : State)
include hi

theorem render_admits_ok :
    ∃ h t, exec i { s with host := h } = .next t ∧ t.status = s.status ∧ t.pc = s.pc + 2 ∧ t.rendering = false := by
  obtain ⟨v, f, hexec, -⟩ := exec_render hi (s.scriptRender .ok)
  obtain ⟨hpc, hstatus, hrendering⟩ := composed_render_of_ok (v := v) (f := f) (scriptRender_nextRender s .ok)
  exact ⟨_, _, hexec, hstatus, hpc, hrendering⟩

theorem render_admits_error (e : Nat) :
    ∃ h t, exec i { s with host := h } = .next t ∧ t.status = .halted (.renderFailure e) ∧ t.pc = s.pc := by
  obtain ⟨v, f, hexec, -⟩ := exec_render hi (s.scriptRender (.error e))
  obtain ⟨hpc, hstatus, -⟩ := composed_render_of_error (v := v) (f := f) (scriptRender_nextRender s (.error e))
  exact ⟨_, _, hexec, hstatus, hpc⟩

theorem render_admits_pending :
    ∃ h t, exec i { s with host := h } = .next t ∧ t.status = s.status ∧ t.pc = s.pc ∧ t.rendering = true := by
  obtain ⟨v, f, hexec, -⟩ := exec_render hi (s.scriptRender .pending)
  obtain ⟨hrendering, hpc, hstatus⟩ :=
    composed_render_of_pending (v := v) (f := f) (scriptRender_nextRender s .pending)
  exact ⟨_, _, hexec, hstatus, hpc, hrendering⟩

end

/-- What the wait leaves after a scripted answer is what LD Vx, K can leave. -/
theorem ldVxK_admits {s : State} {x : Reg} {P : State → Prop} (a : KeyPoll) (h : P ((s.scriptPoll a).awaitKey x)) :
    ∃ h t, exec (.ldVxK x) { s with host := h } = .next t ∧ P t :=
  ⟨_, _, exec_ldVxK x (s.scriptPoll a), h⟩

theorem ldVxK_admits_key (s : State) (x : Reg) (k : Fin 16) :
    ∃ h t, exec (.ldVxK x) { s with host := h } = .next t ∧ (t.reg x).toNat = k.val ∧ t.status = .running ∧
      t.pc = s.pc + 2 := by
  have hk : k.val < 2 ^ 8 := Nat.lt_trans k.isLt (by decide)
  refine ldVxK_admits (P := fun t => (t.reg x).toNat = k.val ∧ t.status = .running ∧ t.pc = s.pc + 2) (.key k) ?_
  rw [State.awaitKey_of_key _ x (scriptPoll_nextPoll s _) k.isLt, State.setReg_advance_reg_self]
  exact ⟨Nat.mod_eq_of_lt hk, rfl, rfl⟩

/-- Every answer but a key writes its status and keeps PC. -/
theorem ldVxK_admits_status (s : State) (x : Reg) {q : Status} (a : KeyPoll)
    (h : (s.scriptPoll a).awaitKey x = (s.scriptPoll a).takePoll.setStatus q) :
    ∃ h t, exec (.ldVxK x) { s with host := h } = .next t ∧ t.status = q ∧ t.pc = s.pc := by
  refine ldVxK_admits (P := fun t => t.status = q ∧ t.pc = s.pc) a ?_
  rw [h]
  exact ⟨rfl, rfl⟩

/-- Settles O34: each answer is given by the script that holds it alone. -/
theorem everyHostAnswerIsAdmitted : Obligations.EveryHostAnswerIsAdmitted := by
  intro s
  refine ⟨rnd_admits s, fun hkey x down => ⟨skp_admits hkey x down, sknp_admits hkey x down⟩,
    fun i hi => ⟨render_admits_ok hi s, render_admits_error hi s, render_admits_pending hi s⟩,
    fun x => ⟨ldVxK_admits_key s x, ?_, fun e => ?_, ?_⟩⟩
  · exact ldVxK_admits_status s x .cancel (State.awaitKey_of_cancel _ x (scriptPoll_nextPoll s _))
  · exact ldVxK_admits_status s x (.error e) (State.awaitKey_of_error _ x (scriptPoll_nextPoll s _))
  · exact ldVxK_admits_status s x .pending (State.awaitKey_of_pending _ x (scriptPoll_nextPoll s _))

end Sys2Proof.Machine
end

section
/-! SUPPORT. Construction, load and placing (10_state.md R33, R37; 40_dispatch.md R112; 70_reset_and_hazards.md R261,
R262): what memory reads as after each, and that a placed word is the one fetched next. -/

namespace Sys2Proof.Machine

/-! ### Construction -/

theorem initial_inv {p : Params} (h : p.wf) : Inv (State.initial p) := by
  have ⟨_, hslot, _⟩ := h
  refine ⟨h, State.initial_wf p, List.length_replicate, hslot, ?_⟩
  exact (List.getElem?_replicate_of_lt hslot)

theorem defaultParams_wf : defaultParams.wf := by
  decide

/-- Settles O16: nothing is listed in memory, SP is 0, and there is a slot. -/
theorem resetMeetsTheInvariant : Obligations.ResetMeetsTheInvariant :=
  ⟨fun _ => initial_inv, initial_inv defaultParams_wf⟩

theorem fontByte_of_lt (p : Params) {k : Nat} (hk : k < 80) : fontByte p k = p.font[k] := dif_pos hk

theorem fontByte_of_ge (p : Params) {k : Nat} (hk : 80 ≤ k) : fontByte p k = 0 := dif_neg (Nat.not_lt_of_le hk)

theorem initial_readMem_of_lt {p : Params} {a : Nat} (ha : a < p.memSize) :
    (State.initial p).readMem a = fontByte p a := by
  rw [State.initial_readMem, Nat.mod_eq_of_lt ha, memBackground_eq]

/-- FONT is the list of its glyphs' bytes (R33). -/
theorem fontByte_defaultParams (a : Nat) : fontByte defaultParams a = (fontLow ++ fontHigh).getD a 0 := by
  have hlen : (fontLow ++ fontHigh).length = 80 := rfl
  by_cases ha : a < 80
  · rw [fontByte_of_lt _ ha, List.getD_eq_getElem _ _ (hlen ▸ ha)]
    rfl
  · rw [fontByte_of_ge _ (Nat.le_of_not_lt ha), List.getD_eq_default _ _ (hlen ▸ Nat.le_of_not_lt ha)]

/-- Settles O57: unlisted memory reads as FONT and 0, and the other fields are constants. -/
theorem resetLeavesTheStatedValues : Obligations.ResetLeavesTheStatedValues := by
  refine ⟨fun a ha => ?_, fun r => ?_, rfl, rfl, rfl, List.length_replicate, fun w => List.eq_of_mem_replicate, rfl,
    rfl, fun q => BitVec.getLsbD_zero, rfl, rfl⟩
  · rw [State.reset, initial_readMem_of_lt ha, fontByte_defaultParams]
  · exact Vector.getElem_replicate _

/-- A byte that memory reads already, in a memory that lists nothing, is not listed. -/
theorem initial_writeMem_background (p : Params) (a : Nat) :
    (State.initial p).writeMem a (memBackground p (a % p.memSize)) = State.initial p := by
  have hmem : memSet p [] (a % p.memSize) (memBackground p (a % p.memSize)) = [] := if_pos rfl
  rw [State.writeMem]
  exact congrArg (fun m => { State.initial p with mem := m }) hmem

/-- Copying the font in changes nothing: memory after construction reads so already (R261). -/
theorem initial_loadFont {p : Params} (h : p.wf) : (State.initial p).loadFont = State.initial p := by
  have ⟨hsize, _, _⟩ := h
  refine forRange_induct (P := (· = State.initial p)) 80 _ rfl ?_
  rintro k _ hk rfl
  have hk' : (Config.fontBase + k) % p.memSize = k := by
    rw [Nat.zero_add]
    exact Nat.mod_eq_of_lt (Nat.lt_of_lt_of_le (Nat.lt_trans hk (by decide)) hsize)
  have hbyte : fontByte (State.initial p).params k = memBackground p ((Config.fontBase + k) % p.memSize) := by
    rw [hk', memBackground_eq]
    rfl
  rw [hbyte, initial_writeMem_background]

/-- Settles O58: the split is the one on the frequency. -/
theorem constructionChecksTheFrequency : Obligations.ConstructionChecksTheFrequency := by
  intro f p
  refine ⟨fun hf => if_pos hf, fun hp hf => ?_, fun ⟨hsize, _, _⟩ => ⟨fun k hk => ?_, fun a ha hlt => ?_⟩⟩
  · rw [construct, if_neg (Int.not_le.2 hf), initial_loadFont hp]
  · rw [initial_readMem_of_lt (Nat.lt_of_lt_of_le (Nat.lt_trans hk (by decide)) hsize), fontByte_of_lt p hk]
  · rw [initial_readMem_of_lt hlt, fontByte_of_ge p ha]

/-! ### Load -/

/-- Settles O59: the split is the one on the length; the copy is the loader's loop. -/
theorem loadCopiesAProgramThatFits : Obligations.LoadCopiesAProgramThatFits := by
  intro s ⟨hsize, _, _⟩
  refine ⟨rfl, fun bs => ⟨fun hlong => if_pos hlong, fun hfits => ?_⟩⟩
  have hend : 0x200 + bs.length ≤ s.params.memSize := Nat.add_le_of_le_sub' hsize hfits
  exact ⟨_, if_neg (Nat.not_lt_of_le hfits), fun k hk => writeBytes_readMem_inside bs _ s k hk hend,
    fun c hc hout => writeBytes_readMem_outside bs _ s c hend hc hout, writeBytes_frame bs _ s⟩

/-! ### Placing -/

theorem withoutStop_nextAct_stop (s : State) : s.withoutStop.nextAct.stop = false := by
  cases hstop : s.nextAct.stop
  case true =>
    have hhost : s.withoutStop.host = { s.host with acts := { s.nextAct with stop := false } :: s.host.acts.tail } :=
      if_pos hstop
    rw [State.nextAct, hhost]
    rfl
  case false =>
    have hhost : s.withoutStop.host = s.host := if_neg (Bool.eq_false_iff.1 hstop)
    rw [State.nextAct, hhost]
    exact hstop

section
variable (s : State) (w : Nat)

theorem withFetchWord_readMem (a : Nat) :
    (s.withFetchWord 16 w).readMem a =
      if a % s.params.memSize = (s.pc.toNat + 1) % s.params.memSize then lowByte (BitVec.ofNat 16 (w % 2 ^ 16))
      else if a % s.params.memSize = s.pc.toNat % s.params.memSize then highByte (BitVec.ofNat 16 (w % 2 ^ 16))
      else s.readMem a := by
  have h := (s.writeMem s.pc.toNat (highByte (BitVec.ofNat 16 (w % 2 ^ 16)))).writeMem_readMem (s.pc.toNat + 1)
    (lowByte (BitVec.ofNat 16 (w % 2 ^ 16))) a
  rw [State.writeMem_readMem s] at h
  exact h

theorem withFetchWord_stopRequested : (s.withFetchWord 16 w).hostActs.stopRequested = false := by
  rw [State.hostActs_stopRequested, Bool.or_eq_false_iff]
  exact ⟨rfl, withoutStop_nextAct_stop _⟩

variable {s w}

/-- With two bytes of memory the two bytes placed do not overlap. -/
theorem withFetchWord_fetchWord (hsize : 2 ≤ s.params.memSize) (hw : w < 65536) :
    (s.withFetchWord 16 w).fetchWord = BitVec.ofNat 16 w := by
  have hne : s.pc.toNat % s.params.memSize ≠ (s.pc.toNat + 1) % s.params.memSize :=
    (add_mod_ne_of_lt (j := 0) Nat.one_pos (by omega)).symm
  rw [State.fetchWord, show (s.withFetchWord 16 w).pc = s.pc from rfl, withFetchWord_readMem, withFetchWord_readMem,
    if_neg hne, if_pos rfl, if_pos rfl, wordOfBytes_bytes, Nat.mod_eq_of_lt (show w < 2 ^ 16 from hw)]

end

/-- Settles O60: the boundary finds no stop request and keeps PC and memory, so the step decodes the word placed. -/
theorem placedInstructionRunsNext : Obligations.PlacedInstructionRunsNext := by
  intro s w i ⟨hsize, _, _⟩ hw hdecode
  have hfetch : (s.withFetchWord 16 w).fetchWord = BitVec.ofNat 16 w :=
    withFetchWord_fetchWord (Nat.le_trans (by decide) hsize) hw
  have hstep : step (s.withFetchWord 16 w) = exec i (s.withFetchWord 16 w).hostActs :=
    step_of_decode rfl rfl (withFetchWord_stopRequested s w) (hfetch.symm ▸ hdecode)
  refine ⟨_, hstep, (State.hostActs_fetchWord _).trans hfetch, State.hostActs_pc _, State.hostActs_status _,
    State.hostActs_rendering _, fun r _ => State.hostActs_reg _ r, State.hostActs_i _,
    ⟨State.hostActs_sp _, State.hostActs_stack _⟩, State.hostActs_fb _, State.hostActs_params _, fun a hpc hnext => ?_⟩
  rw [State.hostActs_readMem, withFetchWord_readMem, if_neg hnext, if_neg hpc]

end Sys2Proof.Machine
end
